-- ==== Sys2Proof/Word.lean ====
section
/-! DEFINITION. The word types of HexaCore CORE (spec 00_scope.md R6, R7): bytes, 16-bit words, 24-bit addresses, 4-bit register selectors. -/

namespace Sys2Proof

/-- A u8: half a register, an IO port number, IO data, the opcode byte (R6, R7). -/
abbrev Byte := BitVec 8

/-- A u16: a general register, the metadata word, the data lane, the stack offset (R6, R7). -/
abbrev Word := BitVec 16

/-- A u24 ExtendedAddress: bank in bits 23..16, segment in bits 15..0 (R29). -/
abbrev Addr := BitVec 24

/-- A 4-bit register selector of the metadata word (R22). -/
abbrev Selector := BitVec 4

end Sys2Proof
end

