-- ==== Sys2Proof/Syntax.lean ====
section
/-! DEFINITION. Abstract syntax of the HexaCore instruction set: addressing modes, the closed mnemonic set (spec 30_encoding.md R97), operand forms, and one constructor of `Instr` per row of the opcode table (R98). -/

namespace Sys2Proof

/-- The four addressing modes of the opcode table (R91). -/
inductive Mode where
  | implied
  | immediate
  | register
  | absolute
  deriving DecidableEq, Repr

/-- The closed set of 57 mnemonics (R97), in the order of their index; IN is written `inp`. -/
inductive Mnemonic where
  | add | addb | sub | subb | inc | incb | dec | decb | and | andb | or | orb | xor | xorb | not
  | notb | shl | shlb | shr | shrb | rol | rolb | ror | rorb | cmp | cmpb | mov | movb | str | strb
  | push | pushb | pop | popb | jmp | jsr | rts | rti | beq | bne | bcs | bcc | bmi | bpl | bvs
  | bvc | blt | bgt | sec | clc | sei | cli | clv | inp | out | nop | hlt
  deriving DecidableEq, Repr

/-- What the resolver adds to the base address of an Absolute operand (R95): a sign-magnitude displacement (metadata
X = 0, fields S and DISP) or the signed value of the register R2 (X = 1). -/
inductive Offset where
  | disp (negative : Bool) (magnitude : BitVec 6)
  | index (r2 : Selector)
  deriving DecidableEq, Repr

/-- An Absolute operand: the bank byte and the segment word after the header (R95) and the offset of the metadata word. -/
structure AbsOperand where
  bank : Byte
  seg : Word
  offset : Offset
  deriving DecidableEq, Repr

/-- One constructor per row of the opcode table (R97, R98). A mnemonic with several modes has the mode in its
constructor's name (`Imm`, `Reg`, `Abs`). A constructor carries exactly the metadata fields and operand bytes that its
mode uses (R93). -/
inductive Instr where
  | addImm (r1 : Selector) (imm : Word)
  | addReg (r1 : Selector) (r2 : Selector)
  | addAbs (r1 : Selector) (m : AbsOperand)
  | addbImm (r1 : Selector) (imm : Byte)
  | addbReg (r1 : Selector) (r2 : Selector)
  | addbAbs (r1 : Selector) (m : AbsOperand)
  | subImm (r1 : Selector) (imm : Word)
  | subReg (r1 : Selector) (r2 : Selector)
  | subAbs (r1 : Selector) (m : AbsOperand)
  | subbImm (r1 : Selector) (imm : Byte)
  | subbReg (r1 : Selector) (r2 : Selector)
  | subbAbs (r1 : Selector) (m : AbsOperand)
  | inc (r1 : Selector)
  | incb (r1 : Selector)
  | dec (r1 : Selector)
  | decb (r1 : Selector)
  | andImm (r1 : Selector) (imm : Word)
  | andReg (r1 : Selector) (r2 : Selector)
  | andAbs (r1 : Selector) (m : AbsOperand)
  | andbImm (r1 : Selector) (imm : Byte)
  | andbReg (r1 : Selector) (r2 : Selector)
  | andbAbs (r1 : Selector) (m : AbsOperand)
  | orImm (r1 : Selector) (imm : Word)
  | orReg (r1 : Selector) (r2 : Selector)
  | orAbs (r1 : Selector) (m : AbsOperand)
  | orbImm (r1 : Selector) (imm : Byte)
  | orbReg (r1 : Selector) (r2 : Selector)
  | orbAbs (r1 : Selector) (m : AbsOperand)
  | xorImm (r1 : Selector) (imm : Word)
  | xorReg (r1 : Selector) (r2 : Selector)
  | xorAbs (r1 : Selector) (m : AbsOperand)
  | xorbImm (r1 : Selector) (imm : Byte)
  | xorbReg (r1 : Selector) (r2 : Selector)
  | xorbAbs (r1 : Selector) (m : AbsOperand)
  | not (r1 : Selector)
  | notb (r1 : Selector)
  | shl (r1 : Selector)
  | shlb (r1 : Selector)
  | shr (r1 : Selector)
  | shrb (r1 : Selector)
  | rol (r1 : Selector)
  | rolb (r1 : Selector)
  | ror (r1 : Selector)
  | rorb (r1 : Selector)
  | cmpImm (r1 : Selector) (imm : Word)
  | cmpReg (r1 : Selector) (r2 : Selector)
  | cmpAbs (r1 : Selector) (m : AbsOperand)
  | cmpbImm (r1 : Selector) (imm : Byte)
  | cmpbReg (r1 : Selector) (r2 : Selector)
  | cmpbAbs (r1 : Selector) (m : AbsOperand)
  | movImm (r1 : Selector) (imm : Word)
  | movReg (r1 : Selector) (r2 : Selector)
  | movAbs (r1 : Selector) (m : AbsOperand)
  | movbImm (r1 : Selector) (imm : Byte)
  | movbReg (r1 : Selector) (r2 : Selector)
  | movbAbs (r1 : Selector) (m : AbsOperand)
  | str (r1 : Selector) (m : AbsOperand)
  | strb (r1 : Selector) (m : AbsOperand)
  | push (r1 : Selector)
  | pushb (r1 : Selector)
  | pop (r1 : Selector)
  | popb (r1 : Selector)
  | jmp (m : AbsOperand)
  | jsr (m : AbsOperand)
  | rts
  | rti
  | beq (m : AbsOperand)
  | bne (m : AbsOperand)
  | bcs (m : AbsOperand)
  | bcc (m : AbsOperand)
  | bmi (m : AbsOperand)
  | bpl (m : AbsOperand)
  | bvs (m : AbsOperand)
  | bvc (m : AbsOperand)
  | blt (m : AbsOperand)
  | bgt (m : AbsOperand)
  | sec
  | clc
  | sei
  | cli
  | clv
  | inImm (r1 : Selector) (port : Byte)
  | inReg (r1 : Selector) (r2 : Selector)
  | outImm (r1 : Selector) (port : Byte)
  | outReg (r1 : Selector) (r2 : Selector)
  | nop
  | hlt
  deriving DecidableEq, Repr

end Sys2Proof
end

