-- ==== Sys2Proof/Config.lean ====
section
/-! DEFINITION. The implementation parameters of spec 00_scope.md R6 as plain data: `Config`. They are fixed for a run (10_state.md R41). The default values are in Decode.lean (`Config.reference`). -/

namespace Sys2Proof

/-- One entry of OPCODE_TABLE (R91, R101): the opcode byte, the mnemonic (`none`: a name outside the closed set of R97),
the addressing-mode tag, the byte/word variant flag and the size class in bytes. -/
structure OpRow where
  opcode : Byte
  mnemonic : Option Mnemonic
  mode : Mode
  isByte : Bool
  size : Nat
  deriving DecidableEq, Repr

/-- META_LAYOUT (R92, D5): the number of the lowest bit of each field of the metadata word. R1 and R2 take 4 bits, X and
S one bit, DISP 6 bits. -/
structure MetaLayout where
  r1 : Nat
  r2 : Nat
  x : Nat
  s : Nat
  disp : Nat
  deriving DecidableEq, Repr

/-- HALF_SEL_LAYOUT (R22, D4): which selector bits name the register (high and low bit of its index) and which bit picks
the half; `highWhen` is that bit's value for the high half. -/
structure HalfSelLayout where
  regHi : Fin 3
  regLo : Fin 3
  half : Fin 3
  highWhen : Bool
  deriving DecidableEq, Repr

/-- FLAG_LAYOUT (R28, D8): the bit of each flag in the pushed flag byte. -/
structure FlagLayout where
  z : Fin 8
  n : Fin 8
  c : Fin 8
  v : Fin 8
  lt : Fin 8
  gt : Fin 8
  i : Fin 8
  deriving DecidableEq, Repr

/-- What a device answers to a request: the union of the source's result lists (R73, 90_conflicts.md C4). `done` is success
without a value, the success of a write. -/
inductive DeviceResult where
  | value8 (b : Byte)
  | value16 (w : Word)
  | done
  | readOnly
  | writeOnly
  | noValue
  | noDevice
  deriving DecidableEq, Repr

/-- One line of a memory-bus device's behaviour: the result for the requests at `addr`, of width `wide` and, for a write,
with data `data`; `none` fits every value. -/
structure BusRule where
  addr : Option Addr
  wide : Option Bool
  data : Option Word
  result : DeviceResult
  deriving DecidableEq, Repr

/-- One line of an IO device's behaviour: the result for the requests at `port` and, for a write, with byte `data`; `none`
fits every value. -/
structure IoRule where
  port : Option Byte
  data : Option Byte
  result : DeviceResult
  deriving DecidableEq, Repr

/-- How an address-mapped device answers a read (R73, R74). `memory`: the stored bytes. `rules`: the first rule that fits,
the same in every cycle. `external`: the first rule that fits among those the environment supplies for that cycle, so the
answer may depend on the address, on the width and on time (R71, log entry 12). -/
inductive ReadAnswer where
  | memory
  | rules (rs : List BusRule)
  | external
  deriving DecidableEq, Repr

/-- How an address-mapped device answers a write (R73, R74). `store`: the bytes are stored. `rules`, `external`: as for a
read; the answer may also depend on the data. -/
inductive WriteAnswer where
  | store
  | rules (rs : List BusRule)
  | external
  deriving DecidableEq, Repr

/-- An address-mapped device (R73): claimed start and end address (inclusive), declared size, what a byte of it that
nothing has written holds (`none`: no value, R78), and its answers. -/
structure MemDevice where
  first : Addr
  last : Addr
  size : Nat
  fill : Option Byte
  onRead : ReadAnswer
  onWrite : WriteAnswer
  deriving DecidableEq, Repr

/-- How an IO-mapped device answers `io_read()` or `io_write` (R73, R75): by the first rule that fits, among rules of its
own or among those the environment supplies for that cycle (log entry 12). -/
inductive IoAnswer where
  | rules (rs : List IoRule)
  | external
  deriving DecidableEq, Repr

/-- An IO-mapped device: its port and its answers (R73, R75). -/
structure IoDevice where
  port : Byte
  onRead : IoAnswer
  onWrite : IoAnswer
  deriving DecidableEq, Repr

/-- PLATFORM (R73, D41): the two registries in registration order, ROM_BASE and the ROM image (R72, R77). -/
structure Platform where
  devices : List MemDevice
  ioDevices : List IoDevice
  romBase : Addr
  image : List Byte
  deriving DecidableEq, Repr

/-- The parameters of R6. -/
structure Config where
  opcodeTable : List OpRow
  metaLayout : MetaLayout
  halfSel : HalfSelLayout
  flagLayout : FlagLayout
  stackPage : Byte
  spReset : Word
  vectorBase : Addr
  nmiVectorAddr : Addr
  nmiClearsLatch : Bool
  exitOnHalt : Bool
  externalWriters : Bool
  platform : Platform
  deriving DecidableEq, Repr

end Sys2Proof
end

