-- ==== Sys2Proof/Decode.lean ====
section
/-! DEFINITION. Encoding and decoding (spec 30_encoding.md): mnemonic properties (R97, R100, R102), the reference opcode table (R98), the default parameters (00_scope.md R6), the metadata fields (R92), the decoder (R103) and the encoder (R90). Byte order is big-endian (20_memory.md R66). -/

namespace Sys2Proof

/-! ## Byte order and bit fields -/

/-- Big-endian pair: the first byte is the high one (R66). -/
def joinWord (hi lo : Byte) : Word := hi ++ lo

/-- `w[15:8]`. -/
def hiByte (w : Word) : Byte := w.extractLsb' 8 8

/-- `w[7:0]`. -/
def loByte (w : Word) : Byte := w.extractLsb' 0 8

/-- The u24 `bank : segment` (R29). -/
def joinAddr (bank : Byte) (seg : Word) : Addr := bank ++ seg

/-- Address bits 23..16 (R29). -/
def bankOf (a : Addr) : Byte := a.extractLsb' 16 8

/-- Address bits 15..0 (R29). -/
def segOf (a : Addr) : Word := a.extractLsb' 0 16

/-! ## Mnemonic properties -/

/-- The index of a mnemonic in the closed set (R97). -/
def Mnemonic.index : Mnemonic → Nat
  | .add => 1
  | .addb => 2
  | .sub => 3
  | .subb => 4
  | .inc => 5
  | .incb => 6
  | .dec => 7
  | .decb => 8
  | .and => 9
  | .andb => 10
  | .or => 11
  | .orb => 12
  | .xor => 13
  | .xorb => 14
  | .not => 15
  | .notb => 16
  | .shl => 17
  | .shlb => 18
  | .shr => 19
  | .shrb => 20
  | .rol => 21
  | .rolb => 22
  | .ror => 23
  | .rorb => 24
  | .cmp => 25
  | .cmpb => 26
  | .mov => 27
  | .movb => 28
  | .str => 29
  | .strb => 30
  | .push => 31
  | .pushb => 32
  | .pop => 33
  | .popb => 34
  | .jmp => 35
  | .jsr => 36
  | .rts => 37
  | .rti => 38
  | .beq => 39
  | .bne => 40
  | .bcs => 41
  | .bcc => 42
  | .bmi => 43
  | .bpl => 44
  | .bvs => 45
  | .bvc => 46
  | .blt => 47
  | .bgt => 48
  | .sec => 49
  | .clc => 50
  | .sei => 51
  | .cli => 52
  | .clv => 53
  | .inp => 54
  | .out => 55
  | .nop => 56
  | .hlt => 57

/-- The byte/word variant flag: true for w = 8, the B-suffixed mnemonics and IN, OUT (R100). -/
def Mnemonic.isByte : Mnemonic → Bool
  | .addb | .subb | .incb | .decb | .andb | .orb | .xorb | .notb | .shlb | .shrb | .rolb | .rorb | .cmpb | .movb | .strb | .pushb | .popb | .inp | .out => true
  | _ => false

/-- The operation width w (R100). -/
def Mnemonic.width (mn : Mnemonic) : Nat := if mn.isByte then 8 else 16

/-- The legal addressing modes of a mnemonic (R97). -/
def Mnemonic.modes : Mnemonic → List Mode
  | .add | .addb | .sub | .subb | .and | .andb | .or | .orb | .xor | .xorb | .cmp | .cmpb | .mov
  | .movb => [.immediate, .register, .absolute]
  | .inc | .incb | .dec | .decb | .not | .notb | .shl | .shlb | .shr | .shrb | .rol | .rolb | .ror
  | .rorb | .push | .pushb | .pop | .popb => [.register]
  | .str | .strb | .jmp | .jsr | .beq | .bne | .bcs | .bcc | .bmi | .bpl | .bvs | .bvc | .blt
  | .bgt => [.absolute]
  | .rts | .rti | .sec | .clc | .sei | .cli | .clv | .nop | .hlt => [.implied]
  | .inp | .out => [.immediate, .register]

/-- The number of operand bytes after the header: w/8 for Immediate, 3 for Absolute, else none (R90, R102). -/
def operandSize (mn : Mnemonic) : Mode → Nat
  | .implied | .register => 0
  | .immediate => if mn.isByte then 1 else 2
  | .absolute => 3

/-- Instruction length in bytes (R102). -/
def instrLength (mn : Mnemonic) (mode : Mode) : Nat := 3 + operandSize mn mode

/-- The mode codes of the reference table (R98). -/
def Mode.code : Mode → Nat
  | .implied => 0
  | .immediate => 1
  | .register => 2
  | .absolute => 3

/-! ## The reference opcode table (R98) and the default parameters (R6) -/

/-- Rows of R98 for opcodes 0x05 to 0x22. -/
def tableArith : List OpRow := [
  ⟨0x05, some .add, .immediate, false, 5⟩,
  ⟨0x06, some .add, .register, false, 3⟩,
  ⟨0x07, some .add, .absolute, false, 6⟩,
  ⟨0x09, some .addb, .immediate, true, 4⟩,
  ⟨0x0A, some .addb, .register, true, 3⟩,
  ⟨0x0B, some .addb, .absolute, true, 6⟩,
  ⟨0x0D, some .sub, .immediate, false, 5⟩,
  ⟨0x0E, some .sub, .register, false, 3⟩,
  ⟨0x0F, some .sub, .absolute, false, 6⟩,
  ⟨0x11, some .subb, .immediate, true, 4⟩,
  ⟨0x12, some .subb, .register, true, 3⟩,
  ⟨0x13, some .subb, .absolute, true, 6⟩,
  ⟨0x16, some .inc, .register, false, 3⟩,
  ⟨0x1A, some .incb, .register, true, 3⟩,
  ⟨0x1E, some .dec, .register, false, 3⟩,
  ⟨0x22, some .decb, .register, true, 3⟩]

/-- Rows of R98 for opcodes 0x25 to 0x42. -/
def tableLogic : List OpRow := [
  ⟨0x25, some .and, .immediate, false, 5⟩,
  ⟨0x26, some .and, .register, false, 3⟩,
  ⟨0x27, some .and, .absolute, false, 6⟩,
  ⟨0x29, some .andb, .immediate, true, 4⟩,
  ⟨0x2A, some .andb, .register, true, 3⟩,
  ⟨0x2B, some .andb, .absolute, true, 6⟩,
  ⟨0x2D, some .or, .immediate, false, 5⟩,
  ⟨0x2E, some .or, .register, false, 3⟩,
  ⟨0x2F, some .or, .absolute, false, 6⟩,
  ⟨0x31, some .orb, .immediate, true, 4⟩,
  ⟨0x32, some .orb, .register, true, 3⟩,
  ⟨0x33, some .orb, .absolute, true, 6⟩,
  ⟨0x35, some .xor, .immediate, false, 5⟩,
  ⟨0x36, some .xor, .register, false, 3⟩,
  ⟨0x37, some .xor, .absolute, false, 6⟩,
  ⟨0x39, some .xorb, .immediate, true, 4⟩,
  ⟨0x3A, some .xorb, .register, true, 3⟩,
  ⟨0x3B, some .xorb, .absolute, true, 6⟩,
  ⟨0x3E, some .not, .register, false, 3⟩,
  ⟨0x42, some .notb, .register, true, 3⟩]

/-- Rows of R98 for opcodes 0x46 to 0x62. -/
def tableShift : List OpRow := [
  ⟨0x46, some .shl, .register, false, 3⟩,
  ⟨0x4A, some .shlb, .register, true, 3⟩,
  ⟨0x4E, some .shr, .register, false, 3⟩,
  ⟨0x52, some .shrb, .register, true, 3⟩,
  ⟨0x56, some .rol, .register, false, 3⟩,
  ⟨0x5A, some .rolb, .register, true, 3⟩,
  ⟨0x5E, some .ror, .register, false, 3⟩,
  ⟨0x62, some .rorb, .register, true, 3⟩]

/-- Rows of R98 for opcodes 0x65 to 0x6B. -/
def tableCompare : List OpRow := [
  ⟨0x65, some .cmp, .immediate, false, 5⟩,
  ⟨0x66, some .cmp, .register, false, 3⟩,
  ⟨0x67, some .cmp, .absolute, false, 6⟩,
  ⟨0x69, some .cmpb, .immediate, true, 4⟩,
  ⟨0x6A, some .cmpb, .register, true, 3⟩,
  ⟨0x6B, some .cmpb, .absolute, true, 6⟩]

/-- Rows of R98 for opcodes 0x6D to 0x7B. -/
def tableMove : List OpRow := [
  ⟨0x6D, some .mov, .immediate, false, 5⟩,
  ⟨0x6E, some .mov, .register, false, 3⟩,
  ⟨0x6F, some .mov, .absolute, false, 6⟩,
  ⟨0x71, some .movb, .immediate, true, 4⟩,
  ⟨0x72, some .movb, .register, true, 3⟩,
  ⟨0x73, some .movb, .absolute, true, 6⟩,
  ⟨0x77, some .str, .absolute, false, 6⟩,
  ⟨0x7B, some .strb, .absolute, true, 6⟩]

/-- Rows of R98 for opcodes 0x7E to 0x8A. -/
def tableStack : List OpRow := [
  ⟨0x7E, some .push, .register, false, 3⟩,
  ⟨0x82, some .pushb, .register, true, 3⟩,
  ⟨0x86, some .pop, .register, false, 3⟩,
  ⟨0x8A, some .popb, .register, true, 3⟩]

/-- Rows of R98 for opcodes 0x8F to 0xC3. -/
def tableControl : List OpRow := [
  ⟨0x8F, some .jmp, .absolute, false, 6⟩,
  ⟨0x93, some .jsr, .absolute, false, 6⟩,
  ⟨0x94, some .rts, .implied, false, 3⟩,
  ⟨0x98, some .rti, .implied, false, 3⟩,
  ⟨0x9F, some .beq, .absolute, false, 6⟩,
  ⟨0xA3, some .bne, .absolute, false, 6⟩,
  ⟨0xA7, some .bcs, .absolute, false, 6⟩,
  ⟨0xAB, some .bcc, .absolute, false, 6⟩,
  ⟨0xAF, some .bmi, .absolute, false, 6⟩,
  ⟨0xB3, some .bpl, .absolute, false, 6⟩,
  ⟨0xB7, some .bvs, .absolute, false, 6⟩,
  ⟨0xBB, some .bvc, .absolute, false, 6⟩,
  ⟨0xBF, some .blt, .absolute, false, 6⟩,
  ⟨0xC3, some .bgt, .absolute, false, 6⟩]

/-- Rows of R98 for opcodes 0xC4 to 0xD4. -/
def tableFlag : List OpRow := [
  ⟨0xC4, some .sec, .implied, false, 3⟩,
  ⟨0xC8, some .clc, .implied, false, 3⟩,
  ⟨0xCC, some .sei, .implied, false, 3⟩,
  ⟨0xD0, some .cli, .implied, false, 3⟩,
  ⟨0xD4, some .clv, .implied, false, 3⟩]

/-- Rows of R98 for opcodes 0xD9 to 0xE4. -/
def tableSystem : List OpRow := [
  ⟨0xD9, some .inp, .immediate, true, 4⟩,
  ⟨0xDA, some .inp, .register, true, 3⟩,
  ⟨0xDD, some .out, .immediate, true, 4⟩,
  ⟨0xDE, some .out, .register, true, 3⟩,
  ⟨0xE0, some .nop, .implied, false, 3⟩,
  ⟨0xE4, some .hlt, .implied, false, 3⟩]

/-- The reference OPCODE_TABLE: the 87 assigned opcodes of R98. -/
def referenceTable : List OpRow :=
  tableArith ++ tableLogic ++ tableShift ++ tableCompare ++ tableMove ++ tableStack ++ tableControl ++ tableFlag ++ tableSystem

/-- ROM of the reference platform: 0x000000-0x00FFFF, zero-padded, read-only (R73, R77). -/
def referenceRom : MemDevice :=
  { first := 0x000000, last := 0x00FFFF, size := 0x10000, fill := some 0, onRead := .memory, onWrite := .rules [⟨none, none, none, .readOnly⟩] }

/-- RAM of the reference platform: 0x010000-0x01FFFF; a byte nothing has written holds no value (R73, R78). -/
def referenceRam : MemDevice :=
  { first := 0x010000, last := 0x01FFFF, size := 0x10000, fill := none, onRead := .memory, onWrite := .store }

/-- The IO device of the reference platform: port 0x01, reads 0x5A, accepts any byte (R73). -/
def referenceIo : IoDevice :=
  { port := 0x01, onRead := .rules [⟨none, none, .value8 0x5A⟩], onWrite := .rules [⟨none, none, .done⟩] }

/-- The default parameters of R6, with the reference platform of R73 and an empty ROM image. -/
def Config.reference : Config where
  opcodeTable := referenceTable
  metaLayout := { r1 := 12, r2 := 8, x := 7, s := 6, disp := 0 }
  halfSel := { regHi := 2, regLo := 1, half := 0, highWhen := false }
  flagLayout := { z := 0, n := 1, c := 2, v := 3, lt := 4, gt := 5, i := 6 }
  stackPage := 0x01
  spReset := 0x0000
  vectorBase := 0x000000
  nmiVectorAddr := 0x000030
  nmiClearsLatch := false
  exitOnHalt := true
  externalWriters := false
  platform :=
    { devices := [referenceRom, referenceRam], ioDevices := [referenceIo], romBase := 0x000000, image := [] }

/-! ## Metadata fields (R92) -/

/-- The 4-bit field of the metadata word whose lowest bit is `pos`. -/
def metaSelector (pos : Nat) (mw : Word) : Selector := mw.extractLsb' pos 4

/-- Offset part of the metadata word: X chooses the index register R2, else S and DISP (R92, R95). -/
def metaOffset (l : MetaLayout) (mw : Word) : Offset :=
  if mw.getLsbD l.x then .index (metaSelector l.r2 mw)
  else .disp (mw.getLsbD l.s) (mw.extractLsb' l.disp 6)

/-- The contents of an instruction after its opcode byte: the metadata fields and the operand bytes. A mode that does not
use a field ignores it (R93). -/
structure Fields where
  r1 : Selector := 0
  r2 : Selector := 0
  offset : Offset := .disp false 0
  imm8 : Byte := 0
  imm16 : Word := 0
  bank : Byte := 0
  seg : Word := 0
  deriving DecidableEq, Repr

/-- The Absolute operand of the fields (R95). -/
def Fields.abs (f : Fields) : AbsOperand := ⟨f.bank, f.seg, f.offset⟩

/-- The fields of a metadata word (R92). -/
def metaFields (l : MetaLayout) (mw : Word) : Fields :=
  { r1 := metaSelector l.r1 mw, r2 := metaSelector l.r2 mw, offset := metaOffset l mw }

/-- The metadata word of the fields, unused fields 0 (R92). -/
def encodeMeta (l : MetaLayout) (f : Fields) : Word :=
  f.r1.setWidth 16 <<< l.r1 |||
    match f.offset with
    | .index r2 => r2.setWidth 16 <<< l.r2 ||| 1#16 <<< l.x
    | .disp neg mag =>
      f.r2.setWidth 16 <<< l.r2 ||| (BitVec.ofBool neg).setWidth 16 <<< l.s ||| mag.setWidth 16 <<< l.disp

/-! ## Decoder (R103) -/

/-- Why bytes are not an instruction: an opcode absent from the table (R104), an entry that is malformed (R101), or too
few bytes. -/
inductive DecodeError where
  | unknownOpcode (op : Byte)
  | badEntry (op : Byte)
  | truncated
  deriving DecidableEq, Repr

/-- OPCODE_TABLE lookup (R91, R125): the mnemonic and mode of an opcode byte. A row that names no mnemonic of R97 or a
mode not legal for it is malformed (R101). -/
def entryOf (table : List OpRow) (op : Byte) : Except DecodeError (Mnemonic × Mode) :=
  match table.find? (fun r => r.opcode == op) with
  | none => .error (.unknownOpcode op)
  | some row =>
    match row.mnemonic with
    | none => .error (.badEntry op)
    | some mn => if mn.modes.contains row.mode then .ok (mn, row.mode) else .error (.badEntry op)

/-- The fields of an instruction of `n` operand bytes, and the bytes after it (R94, R95). -/
def takeOperand (f : Fields) : Nat → List Byte → Option (Fields × List Byte)
  | 0, rest => some (f, rest)
  | 1, b :: rest => some ({ f with imm8 := b }, rest)
  | 2, hi :: lo :: rest => some ({ f with imm16 := joinWord hi lo }, rest)
  | 3, bank :: hi :: lo :: rest => some ({ f with bank := bank, seg := joinWord hi lo }, rest)
  | _, _ => none

/-- The instruction of a mnemonic, a mode and the fields; `none` for a pair that R97 does not allow. -/
def buildInstr (f : Fields) : Mnemonic → Mode → Option Instr
  | .add, .immediate => some (.addImm f.r1 f.imm16)
  | .add, .register => some (.addReg f.r1 f.r2)
  | .add, .absolute => some (.addAbs f.r1 f.abs)
  | .addb, .immediate => some (.addbImm f.r1 f.imm8)
  | .addb, .register => some (.addbReg f.r1 f.r2)
  | .addb, .absolute => some (.addbAbs f.r1 f.abs)
  | .sub, .immediate => some (.subImm f.r1 f.imm16)
  | .sub, .register => some (.subReg f.r1 f.r2)
  | .sub, .absolute => some (.subAbs f.r1 f.abs)
  | .subb, .immediate => some (.subbImm f.r1 f.imm8)
  | .subb, .register => some (.subbReg f.r1 f.r2)
  | .subb, .absolute => some (.subbAbs f.r1 f.abs)
  | .inc, .register => some (.inc f.r1)
  | .incb, .register => some (.incb f.r1)
  | .dec, .register => some (.dec f.r1)
  | .decb, .register => some (.decb f.r1)
  | .and, .immediate => some (.andImm f.r1 f.imm16)
  | .and, .register => some (.andReg f.r1 f.r2)
  | .and, .absolute => some (.andAbs f.r1 f.abs)
  | .andb, .immediate => some (.andbImm f.r1 f.imm8)
  | .andb, .register => some (.andbReg f.r1 f.r2)
  | .andb, .absolute => some (.andbAbs f.r1 f.abs)
  | .or, .immediate => some (.orImm f.r1 f.imm16)
  | .or, .register => some (.orReg f.r1 f.r2)
  | .or, .absolute => some (.orAbs f.r1 f.abs)
  | .orb, .immediate => some (.orbImm f.r1 f.imm8)
  | .orb, .register => some (.orbReg f.r1 f.r2)
  | .orb, .absolute => some (.orbAbs f.r1 f.abs)
  | .xor, .immediate => some (.xorImm f.r1 f.imm16)
  | .xor, .register => some (.xorReg f.r1 f.r2)
  | .xor, .absolute => some (.xorAbs f.r1 f.abs)
  | .xorb, .immediate => some (.xorbImm f.r1 f.imm8)
  | .xorb, .register => some (.xorbReg f.r1 f.r2)
  | .xorb, .absolute => some (.xorbAbs f.r1 f.abs)
  | .not, .register => some (.not f.r1)
  | .notb, .register => some (.notb f.r1)
  | .shl, .register => some (.shl f.r1)
  | .shlb, .register => some (.shlb f.r1)
  | .shr, .register => some (.shr f.r1)
  | .shrb, .register => some (.shrb f.r1)
  | .rol, .register => some (.rol f.r1)
  | .rolb, .register => some (.rolb f.r1)
  | .ror, .register => some (.ror f.r1)
  | .rorb, .register => some (.rorb f.r1)
  | .cmp, .immediate => some (.cmpImm f.r1 f.imm16)
  | .cmp, .register => some (.cmpReg f.r1 f.r2)
  | .cmp, .absolute => some (.cmpAbs f.r1 f.abs)
  | .cmpb, .immediate => some (.cmpbImm f.r1 f.imm8)
  | .cmpb, .register => some (.cmpbReg f.r1 f.r2)
  | .cmpb, .absolute => some (.cmpbAbs f.r1 f.abs)
  | .mov, .immediate => some (.movImm f.r1 f.imm16)
  | .mov, .register => some (.movReg f.r1 f.r2)
  | .mov, .absolute => some (.movAbs f.r1 f.abs)
  | .movb, .immediate => some (.movbImm f.r1 f.imm8)
  | .movb, .register => some (.movbReg f.r1 f.r2)
  | .movb, .absolute => some (.movbAbs f.r1 f.abs)
  | .str, .absolute => some (.str f.r1 f.abs)
  | .strb, .absolute => some (.strb f.r1 f.abs)
  | .push, .register => some (.push f.r1)
  | .pushb, .register => some (.pushb f.r1)
  | .pop, .register => some (.pop f.r1)
  | .popb, .register => some (.popb f.r1)
  | .jmp, .absolute => some (.jmp f.abs)
  | .jsr, .absolute => some (.jsr f.abs)
  | .rts, .implied => some .rts
  | .rti, .implied => some .rti
  | .beq, .absolute => some (.beq f.abs)
  | .bne, .absolute => some (.bne f.abs)
  | .bcs, .absolute => some (.bcs f.abs)
  | .bcc, .absolute => some (.bcc f.abs)
  | .bmi, .absolute => some (.bmi f.abs)
  | .bpl, .absolute => some (.bpl f.abs)
  | .bvs, .absolute => some (.bvs f.abs)
  | .bvc, .absolute => some (.bvc f.abs)
  | .blt, .absolute => some (.blt f.abs)
  | .bgt, .absolute => some (.bgt f.abs)
  | .sec, .implied => some .sec
  | .clc, .implied => some .clc
  | .sei, .implied => some .sei
  | .cli, .implied => some .cli
  | .clv, .implied => some .clv
  | .inp, .immediate => some (.inImm f.r1 f.imm8)
  | .inp, .register => some (.inReg f.r1 f.r2)
  | .out, .immediate => some (.outImm f.r1 f.imm8)
  | .out, .register => some (.outReg f.r1 f.r2)
  | .nop, .implied => some .nop
  | .hlt, .implied => some .hlt
  | _, _ => none

/-- The decoder of R103: the instruction at the head of a list of bytes and the bytes after it. -/
def decode (cfg : Config) : List Byte → Except DecodeError (Instr × List Byte)
  | op :: m1 :: m0 :: rest =>
    match entryOf cfg.opcodeTable op with
    | .error e => .error e
    | .ok (mn, mode) =>
      match takeOperand (metaFields cfg.metaLayout (joinWord m1 m0)) (operandSize mn mode) rest with
      | none => .error .truncated
      | some (f, rest') =>
        match buildInstr f mn mode with
        | none => .error (.badEntry op)
        | some i => .ok (i, rest')
  | _ => .error .truncated

/-! ## Encoder (R90) -/

/-- The (mnemonic, mode) pair of an instruction (R97). -/
def Instr.entry : Instr → Mnemonic × Mode
  | .addImm _ _ => (.add, .immediate)
  | .addReg _ _ => (.add, .register)
  | .addAbs _ _ => (.add, .absolute)
  | .addbImm _ _ => (.addb, .immediate)
  | .addbReg _ _ => (.addb, .register)
  | .addbAbs _ _ => (.addb, .absolute)
  | .subImm _ _ => (.sub, .immediate)
  | .subReg _ _ => (.sub, .register)
  | .subAbs _ _ => (.sub, .absolute)
  | .subbImm _ _ => (.subb, .immediate)
  | .subbReg _ _ => (.subb, .register)
  | .subbAbs _ _ => (.subb, .absolute)
  | .inc _ => (.inc, .register)
  | .incb _ => (.incb, .register)
  | .dec _ => (.dec, .register)
  | .decb _ => (.decb, .register)
  | .andImm _ _ => (.and, .immediate)
  | .andReg _ _ => (.and, .register)
  | .andAbs _ _ => (.and, .absolute)
  | .andbImm _ _ => (.andb, .immediate)
  | .andbReg _ _ => (.andb, .register)
  | .andbAbs _ _ => (.andb, .absolute)
  | .orImm _ _ => (.or, .immediate)
  | .orReg _ _ => (.or, .register)
  | .orAbs _ _ => (.or, .absolute)
  | .orbImm _ _ => (.orb, .immediate)
  | .orbReg _ _ => (.orb, .register)
  | .orbAbs _ _ => (.orb, .absolute)
  | .xorImm _ _ => (.xor, .immediate)
  | .xorReg _ _ => (.xor, .register)
  | .xorAbs _ _ => (.xor, .absolute)
  | .xorbImm _ _ => (.xorb, .immediate)
  | .xorbReg _ _ => (.xorb, .register)
  | .xorbAbs _ _ => (.xorb, .absolute)
  | .not _ => (.not, .register)
  | .notb _ => (.notb, .register)
  | .shl _ => (.shl, .register)
  | .shlb _ => (.shlb, .register)
  | .shr _ => (.shr, .register)
  | .shrb _ => (.shrb, .register)
  | .rol _ => (.rol, .register)
  | .rolb _ => (.rolb, .register)
  | .ror _ => (.ror, .register)
  | .rorb _ => (.rorb, .register)
  | .cmpImm _ _ => (.cmp, .immediate)
  | .cmpReg _ _ => (.cmp, .register)
  | .cmpAbs _ _ => (.cmp, .absolute)
  | .cmpbImm _ _ => (.cmpb, .immediate)
  | .cmpbReg _ _ => (.cmpb, .register)
  | .cmpbAbs _ _ => (.cmpb, .absolute)
  | .movImm _ _ => (.mov, .immediate)
  | .movReg _ _ => (.mov, .register)
  | .movAbs _ _ => (.mov, .absolute)
  | .movbImm _ _ => (.movb, .immediate)
  | .movbReg _ _ => (.movb, .register)
  | .movbAbs _ _ => (.movb, .absolute)
  | .str _ _ => (.str, .absolute)
  | .strb _ _ => (.strb, .absolute)
  | .push _ => (.push, .register)
  | .pushb _ => (.pushb, .register)
  | .pop _ => (.pop, .register)
  | .popb _ => (.popb, .register)
  | .jmp _ => (.jmp, .absolute)
  | .jsr _ => (.jsr, .absolute)
  | .rts => (.rts, .implied)
  | .rti => (.rti, .implied)
  | .beq _ => (.beq, .absolute)
  | .bne _ => (.bne, .absolute)
  | .bcs _ => (.bcs, .absolute)
  | .bcc _ => (.bcc, .absolute)
  | .bmi _ => (.bmi, .absolute)
  | .bpl _ => (.bpl, .absolute)
  | .bvs _ => (.bvs, .absolute)
  | .bvc _ => (.bvc, .absolute)
  | .blt _ => (.blt, .absolute)
  | .bgt _ => (.bgt, .absolute)
  | .sec => (.sec, .implied)
  | .clc => (.clc, .implied)
  | .sei => (.sei, .implied)
  | .cli => (.cli, .implied)
  | .clv => (.clv, .implied)
  | .inImm _ _ => (.inp, .immediate)
  | .inReg _ _ => (.inp, .register)
  | .outImm _ _ => (.out, .immediate)
  | .outReg _ _ => (.out, .register)
  | .nop => (.nop, .implied)
  | .hlt => (.hlt, .implied)

/-- The fields an instruction uses, every other field 0 (R93). -/
def Instr.fields : Instr → Fields
  | .addImm r1 imm => { r1 := r1, imm16 := imm }
  | .addReg r1 r2 => { r1 := r1, r2 := r2 }
  | .addAbs r1 m => { r1 := r1, offset := m.offset, bank := m.bank, seg := m.seg }
  | .addbImm r1 imm => { r1 := r1, imm8 := imm }
  | .addbReg r1 r2 => { r1 := r1, r2 := r2 }
  | .addbAbs r1 m => { r1 := r1, offset := m.offset, bank := m.bank, seg := m.seg }
  | .subImm r1 imm => { r1 := r1, imm16 := imm }
  | .subReg r1 r2 => { r1 := r1, r2 := r2 }
  | .subAbs r1 m => { r1 := r1, offset := m.offset, bank := m.bank, seg := m.seg }
  | .subbImm r1 imm => { r1 := r1, imm8 := imm }
  | .subbReg r1 r2 => { r1 := r1, r2 := r2 }
  | .subbAbs r1 m => { r1 := r1, offset := m.offset, bank := m.bank, seg := m.seg }
  | .inc r1 => { r1 := r1 }
  | .incb r1 => { r1 := r1 }
  | .dec r1 => { r1 := r1 }
  | .decb r1 => { r1 := r1 }
  | .andImm r1 imm => { r1 := r1, imm16 := imm }
  | .andReg r1 r2 => { r1 := r1, r2 := r2 }
  | .andAbs r1 m => { r1 := r1, offset := m.offset, bank := m.bank, seg := m.seg }
  | .andbImm r1 imm => { r1 := r1, imm8 := imm }
  | .andbReg r1 r2 => { r1 := r1, r2 := r2 }
  | .andbAbs r1 m => { r1 := r1, offset := m.offset, bank := m.bank, seg := m.seg }
  | .orImm r1 imm => { r1 := r1, imm16 := imm }
  | .orReg r1 r2 => { r1 := r1, r2 := r2 }
  | .orAbs r1 m => { r1 := r1, offset := m.offset, bank := m.bank, seg := m.seg }
  | .orbImm r1 imm => { r1 := r1, imm8 := imm }
  | .orbReg r1 r2 => { r1 := r1, r2 := r2 }
  | .orbAbs r1 m => { r1 := r1, offset := m.offset, bank := m.bank, seg := m.seg }
  | .xorImm r1 imm => { r1 := r1, imm16 := imm }
  | .xorReg r1 r2 => { r1 := r1, r2 := r2 }
  | .xorAbs r1 m => { r1 := r1, offset := m.offset, bank := m.bank, seg := m.seg }
  | .xorbImm r1 imm => { r1 := r1, imm8 := imm }
  | .xorbReg r1 r2 => { r1 := r1, r2 := r2 }
  | .xorbAbs r1 m => { r1 := r1, offset := m.offset, bank := m.bank, seg := m.seg }
  | .not r1 => { r1 := r1 }
  | .notb r1 => { r1 := r1 }
  | .shl r1 => { r1 := r1 }
  | .shlb r1 => { r1 := r1 }
  | .shr r1 => { r1 := r1 }
  | .shrb r1 => { r1 := r1 }
  | .rol r1 => { r1 := r1 }
  | .rolb r1 => { r1 := r1 }
  | .ror r1 => { r1 := r1 }
  | .rorb r1 => { r1 := r1 }
  | .cmpImm r1 imm => { r1 := r1, imm16 := imm }
  | .cmpReg r1 r2 => { r1 := r1, r2 := r2 }
  | .cmpAbs r1 m => { r1 := r1, offset := m.offset, bank := m.bank, seg := m.seg }
  | .cmpbImm r1 imm => { r1 := r1, imm8 := imm }
  | .cmpbReg r1 r2 => { r1 := r1, r2 := r2 }
  | .cmpbAbs r1 m => { r1 := r1, offset := m.offset, bank := m.bank, seg := m.seg }
  | .movImm r1 imm => { r1 := r1, imm16 := imm }
  | .movReg r1 r2 => { r1 := r1, r2 := r2 }
  | .movAbs r1 m => { r1 := r1, offset := m.offset, bank := m.bank, seg := m.seg }
  | .movbImm r1 imm => { r1 := r1, imm8 := imm }
  | .movbReg r1 r2 => { r1 := r1, r2 := r2 }
  | .movbAbs r1 m => { r1 := r1, offset := m.offset, bank := m.bank, seg := m.seg }
  | .str r1 m => { r1 := r1, offset := m.offset, bank := m.bank, seg := m.seg }
  | .strb r1 m => { r1 := r1, offset := m.offset, bank := m.bank, seg := m.seg }
  | .push r1 => { r1 := r1 }
  | .pushb r1 => { r1 := r1 }
  | .pop r1 => { r1 := r1 }
  | .popb r1 => { r1 := r1 }
  | .jmp m => { offset := m.offset, bank := m.bank, seg := m.seg }
  | .jsr m => { offset := m.offset, bank := m.bank, seg := m.seg }
  | .rts => { }
  | .rti => { }
  | .beq m => { offset := m.offset, bank := m.bank, seg := m.seg }
  | .bne m => { offset := m.offset, bank := m.bank, seg := m.seg }
  | .bcs m => { offset := m.offset, bank := m.bank, seg := m.seg }
  | .bcc m => { offset := m.offset, bank := m.bank, seg := m.seg }
  | .bmi m => { offset := m.offset, bank := m.bank, seg := m.seg }
  | .bpl m => { offset := m.offset, bank := m.bank, seg := m.seg }
  | .bvs m => { offset := m.offset, bank := m.bank, seg := m.seg }
  | .bvc m => { offset := m.offset, bank := m.bank, seg := m.seg }
  | .blt m => { offset := m.offset, bank := m.bank, seg := m.seg }
  | .bgt m => { offset := m.offset, bank := m.bank, seg := m.seg }
  | .sec => { }
  | .clc => { }
  | .sei => { }
  | .cli => { }
  | .clv => { }
  | .inImm r1 port => { r1 := r1, imm8 := port }
  | .inReg r1 r2 => { r1 := r1, r2 := r2 }
  | .outImm r1 port => { r1 := r1, imm8 := port }
  | .outReg r1 r2 => { r1 := r1, r2 := r2 }
  | .nop => { }
  | .hlt => { }

/-- Instruction length in bytes (R102). -/
def Instr.length (i : Instr) : Nat := instrLength i.entry.1 i.entry.2

/-- The operand bytes after the header (R90). -/
def operandBytesOf (f : Fields) : Nat → List Byte
  | 1 => [f.imm8]
  | 2 => [hiByte f.imm16, loByte f.imm16]
  | 3 => [f.bank, hiByte f.seg, loByte f.seg]
  | _ => []

/-- The first opcode byte that the table gives a (mnemonic, mode) pair (R91). -/
def opcodeFor (table : List OpRow) (e : Mnemonic × Mode) : Option Byte :=
  (table.find? (fun r => r.mnemonic == some e.1 && r.mode == e.2)).map (fun r => r.opcode)

/-- The bytes of an instruction in address order, unused metadata fields 0 (R90, R92); `none` when the table has no opcode
for it. -/
def encode (cfg : Config) (i : Instr) : Option (List Byte) :=
  match opcodeFor cfg.opcodeTable i.entry with
  | none => none
  | some op =>
    let mw := encodeMeta cfg.metaLayout i.fields
    some (op :: hiByte mw :: loByte mw :: operandBytesOf i.fields (operandSize i.entry.1 i.entry.2))

/-! ## Words of the opcode table -/

/-- The `n` low bytes of `w`, the lowest first: byte k of the instruction is bits 8k+7..8k. -/
def bytesOfNat : Nat → Nat → List Byte
  | 0, _ => []
  | n + 1, w => BitVec.ofNat 8 w :: bytesOfNat n (w / 256)

/-- The six bytes (the longest instruction, R102) of a table word: its `nbits` bits, every higher bit 0. -/
def tableWordBytes (nbits w : Nat) : List Byte := bytesOfNat 6 (w % 2 ^ nbits)

/-- The instruction the decoder reads, under the default parameters, from a word numbered as the opcode table numbers its
bits: bit 0 is the least significant bit of the first byte. -/
def decodeTableWord (nbits w : Nat) : Option Instr :=
  match decode Config.reference (tableWordBytes nbits w) with
  | .ok (i, _) => some i
  | .error _ => none

end Sys2Proof
end

