-- ==== Sys2Proof/WellFormed.lean ====
section
/-! DEFINITION. Validity checks: the opcode table (spec 30_encoding.md R101), the ROM image (20_memory.md R77), the layouts of the metadata word, the half selectors and the flag byte, and when an instruction has an encoding. -/

namespace Sys2Proof

/-! ## Opcode table (R101) -/

/-- A table entry is well formed: a mnemonic of R97, a mode legal for it, the byte/word flag of R97, the size class of
R102. -/
def OpRow.wf (r : OpRow) : Bool :=
  match r.mnemonic with
  | none => false
  | some mn => mn.modes.contains r.mode && r.isByte == mn.isByte && r.size == instrLength mn r.mode

/-- The first offending opcode of a malformed table (fault CONFIG_TABLE, R101, R430): the first in the order of the list.
The spec's table is a map without an order, so which of several malformed entries is recorded is the model's choice (log
entry 14, DESIGN CHOICE). -/
def firstBadRow (table : List OpRow) : Option Byte :=
  (table.find? (fun r => !r.wf)).map (fun r => r.opcode)

/-- OPCODE_TABLE is a map: an opcode byte has at most one entry (R91). -/
def opcodesDistinct (table : List OpRow) : Bool := decide ((table.map OpRow.opcode).Nodup)

/-! ## ROM image (R77) -/

/-- The declared size of the device at ROM_BASE, whole also where ROM_BASE lies above the device's start, and 0 if no
device claims it (R77; log entry 11). -/
def romSize (p : Platform) : Nat :=
  match p.devices.find? (fun d => d.first ≤ p.romBase && p.romBase ≤ d.last) with
  | none => 0
  | some d => d.size

/-- The ROM image is not longer than its device (R77). -/
def imageFits (p : Platform) : Bool := decide (p.image.length ≤ romSize p)

/-! ## Layouts -/

/-- The bits of a metadata field. -/
def fieldBits (lo width : Nat) : List Nat := List.range' lo width

/-- The five fields of META_LAYOUT are disjoint and inside the 16 bits (R92: 4 + 4 + 1 + 1 + 6 = 16). -/
def MetaLayout.wf (l : MetaLayout) : Bool :=
  let bits := fieldBits l.r1 4 ++ fieldBits l.r2 4 ++ fieldBits l.x 1 ++ fieldBits l.s 1 ++ fieldBits l.disp 6
  decide (bits.Nodup) && bits.all (fun b => decide (b < 16))

/-- HALF_SEL_LAYOUT uses three different selector bits, so each half of each register has a selector (R22). -/
def HalfSelLayout.wf (l : HalfSelLayout) : Bool := decide ([l.regHi, l.regLo, l.half].Nodup)

/-- FLAG_LAYOUT gives each flag a bit of its own (R28). -/
def FlagLayout.wf (l : FlagLayout) : Bool := decide ([l.z, l.n, l.c, l.v, l.lt, l.gt, l.i].Nodup)

/-! ## Configuration and instructions -/

/-- A configuration that construction accepts (R101, R77) and whose layouts lose no field. -/
def Config.wf (c : Config) : Bool :=
  (firstBadRow c.opcodeTable).isNone && opcodesDistinct c.opcodeTable && imageFits c.platform
    && c.metaLayout.wf && c.halfSel.wf && c.flagLayout.wf

/-- An instruction is well formed under a configuration when the opcode table has an opcode for its mnemonic and mode
(R91). Its fields are in range by their types. -/
def Instr.wf (c : Config) (i : Instr) : Bool := (opcodeFor c.opcodeTable i.entry).isSome

end Sys2Proof
end

