-- ==== Sys2Proof/Machine/State.lean ====
section
/-! DEFINITION. The machine state of HexaCore CORE (spec 10_state.md, 20_memory.md R60), the fault codes (60_exceptions.md R430), the outcomes of a step that stops, and the state after reset (10_state.md R42). -/

namespace Sys2Proof.Machine

/-- The four general registers, 16 bits each (R20). A half is a byte of its register, not separate state (R21). -/
structure Regs where
  a : Word
  b : Word
  c : Word
  d : Word
  deriving DecidableEq, Repr

/-- The flag set F (R26): Zero, Negative, Carry, Overflow, LessThan, GreaterThan, InterruptDisable. -/
structure Flags where
  z : Bool
  n : Bool
  c : Bool
  v : Bool
  lt : Bool
  gt : Bool
  i : Bool
  deriving DecidableEq, Repr

/-- The engine's `state` (R32). -/
inductive Phase where
  | reset
  | fetch
  | execute
  | interrupt
  | halt
  deriving DecidableEq, Repr

/-- The interrupt-status latch `istat` (R36). -/
inductive IStat where
  | none
  | irq
  | nmi
  deriving DecidableEq, Repr

/-- What the environment drives in a cycle: the pins `irq`, `nmi`, `irq_vector` (R60), and the behaviour in that cycle of
the devices that the platform declares `external` (R73; the model's own, log entries 4 and 12): on the memory bus
`busReads` and `busWrites`, on the IO bus `ioReads` and `ioWrites`. -/
structure Lines where
  irq : Bool
  nmi : Bool
  vector : BitVec 4
  busReads : List BusRule
  busWrites : List BusRule
  ioReads : List IoRule
  ioWrites : List IoRule
  deriving DecidableEq, Repr

/-- What the environment does before one cycle (the model's own, log entry 4): the levels it drives from then on, and
the RAM bytes that other bus owners write (R85; used only when EXTERNAL_WRITERS is true). -/
structure Stimulus where
  lines : Lines
  writes : List (Addr × Byte)
  deriving DecidableEq, Repr

/-- The place of a bus fault: a memory address or an IO port (R430). -/
inductive BusPlace where
  | mem (a : Addr)
  | io (port : Byte)
  deriving DecidableEq, Repr

/-- The content of the sticky fault register: a fault code with the information recorded with it (R39, R430). `write` is
the direction `rw` (true for a write). -/
inductive FaultReg where
  | configUnknownOpcode (op : Byte) (addr : Addr)
  | configTable (op : Byte)
  | configImage (length : Nat)
  | busNoDevice (place : BusPlace) (write : Bool)
  | busReadOnly (place : BusPlace)
  | busWriteOnly (place : BusPlace)
  | busNoValue (place : BusPlace) (write : Bool)
  | busSplit (addr : Addr)
  | seqRange (phase : Phase) (cyc : Nat)
  deriving DecidableEq, Repr

/-- The numeric code of a fault (R430). -/
def FaultReg.code : FaultReg → Nat
  | .configUnknownOpcode _ _ => 1
  | .configTable _ => 2
  | .configImage _ => 3
  | .busNoDevice _ _ => 4
  | .busReadOnly _ => 5
  | .busWriteOnly _ => 6
  | .busNoValue _ _ => 7
  | .busSplit _ => 8
  | .seqRange _ _ => 9

/-- A write that a device other than memory has accepted (the model's own, log entry 4): the side effect of OUT (R71,
R362), or of a store to an address-mapped device that keeps no bytes. -/
inductive Accepted where
  | io (port value : Byte)
  | bus (addr : Addr) (wide : Bool) (value : Word)
  deriving DecidableEq, Repr

/-- The memory bytes that differ from what an unlisted address reads as: address and byte, addresses rising (R64, R74). -/
abbrev Memory := List Host.Cell

/-- The whole machine. Names in brackets are the spec's. -/
structure State where
  /-- the parameters of R6, fixed for a run (R41) -/
  cfg : Config
  /-- general registers (R20) -/
  regs : Regs
  /-- flag set F (R26) -/
  flags : Flags
  /-- program counter (R30) -/
  pc : Addr
  /-- stack offset in page STACK_PAGE (R31) -/
  sp : Word
  /-- [state] (R32) -/
  phase : Phase
  /-- per-instruction cycle counter (R33) -/
  cyc : Nat
  /-- [IR.op] (R34) -/
  irOp : Byte
  /-- [IR.meta] (R34) -/
  irMeta : Word
  /-- access-width flag, true for two bytes (R35) -/
  word : Bool
  /-- interrupt-status latch (R36) -/
  istat : IStat
  /-- [nmi_prev] (R37) -/
  nmiPrev : Bool
  /-- scratch register (R38) -/
  scr : Addr
  /-- sticky fault register (R39, R430) -/
  fault : Option FaultReg
  /-- [bus_enable] (R60) -/
  busEnable : Bool
  /-- memory address of the transaction (R60) -/
  address : Addr
  /-- direction, true for a write (R60, D7) -/
  rw : Bool
  /-- 16-bit data lane: write data out, read data in (R60) -/
  data : Word
  /-- [io_enable] (R60) -/
  ioEnable : Bool
  /-- [io_address] (R60) -/
  ioAddress : Byte
  /-- [io_rw], true for a write (R60, D7) -/
  ioRw : Bool
  /-- [io_data]: IO data out and in (R60) -/
  ioData : Byte
  /-- [irq_ack] (R60) -/
  irqAck : Bool
  /-- the input pins in the present cycle (R60, R400) -/
  lines : Lines
  /-- what the environment will do before the coming cycles (the model's own, log entry 4) -/
  stim : List Stimulus
  /-- memory (R64, R74) -/
  mem : Memory
  /-- writes accepted by devices other than memory, the latest first (the model's own, log entry 4) -/
  accepted : List Accepted
  deriving DecidableEq, Repr

/-- The `status` output (R39). -/
inductive Status where
  | running
  | halted
  | fault
  deriving DecidableEq, Repr

/-- `status` is derived: FAULT if a fault is recorded, else HALTED in state Halt, else RUNNING (R39). -/
def State.status (s : State) : Status :=
  if s.fault.isSome then .fault else if s.phase = .halt then .halted else .running

/-- The faults that end a run (R430). Each carries the state that the spec leaves (R431): the state after the issuing
cycle, with the fault register set. All are SAFE: the spec itself ends the run there (R9, R433), and only the host's
reset(), applied to `final`, goes on. -/
inductive Fault where
  /-- code 1, raised in Execute cycle 1 of an opcode absent from the table (R104, R125, R432) -/
  | configUnknownOpcode (final : State)
  /-- code 2, raised by construction, by reset() and at the dispatch of a malformed entry (R101, R432, log entry 7) -/
  | configTable (final : State)
  /-- code 3, raised by construction and by reset() when the ROM image is too long (R77, R432) -/
  | configImage (final : State)
  /-- code 4, raised by resolution: no device claims the address or port, or the device answers no-device (R74, R75, R76) -/
  | busNoDevice (final : State)
  /-- code 5, raised by resolution: a write answered read-only (R74, R75) -/
  | busReadOnly (final : State)
  /-- code 6, raised by resolution: a read, of memory or of a port, answered write-only (R74, R360) -/
  | busWriteOnly (final : State)
  /-- code 7, raised by resolution: any other answer that is no success, among them the read of a RAM byte that nothing
  has written (R74, R75, R78, log entry 2) -/
  | busNoValue (final : State)
  /-- code 8, raised by resolution: a word access that leaves the device claiming its first byte (R74) -/
  | busSplit (final : State)
  /-- code 9, raised by a cycle whose counter is outside its sequence's range (R127); no run reaches it (R132) -/
  | seqRange (final : State)
  deriving DecidableEq, Repr

/-- Refusals. No meaning of this model raises one. -/
inductive Refusal where
  /-- raised by exec's arm of an instruction that has no meaning yet (none); safe -/
  | notModelled (mnemonic : String)
  deriving DecidableEq, Repr

/-- What a step answers. -/
abbrev Result := Host.Outcome State Fault Refusal

/-- The state right after construction and reset() under the default parameters (R42, R450). The fields that R42 calls
unspecified are 0 (log entry 3, DESIGN CHOICE); `lines`, `stim` and `accepted` are the model's own (log entry 4). -/
def State.reset : State where
  cfg := Config.reference
  regs := { a := 0, b := 0, c := 0, d := 0 }
  flags := { z := false, n := false, c := false, v := false, lt := false, gt := false, i := false }
  pc := 0x000000
  sp := 0x0000
  phase := .reset
  cyc := 1
  irOp := 0
  irMeta := 0
  word := false
  istat := .none
  nmiPrev := false
  scr := 0
  fault := none
  busEnable := false
  address := 0
  rw := false
  data := 0
  ioEnable := false
  ioAddress := 0
  ioRw := false
  ioData := 0
  irqAck := false
  lines := { irq := false, nmi := false, vector := 0, busReads := [], busWrites := [], ioReads := [], ioWrites := [] }
  stim := []
  mem := []
  accepted := []

end Sys2Proof.Machine
end

