-- ==== Sys2Proof/Machine/Flags.lean ====
section
/-! DEFINITION. The flag byte (spec 10_state.md R28), the flag computations and the operations Op(a, b) of every mnemonic at width w (40_engine.md R141; 41_arithmetic.md R200 to 45_move.md R282), and the branch conditions (47_control.md R320). -/

namespace Sys2Proof.Machine

/-! ## Flag byte -/

/-- One flag at its bit of the flag byte. -/
def flagBit (pos : Fin 8) (x : Bool) : Byte := if x then 1#8 <<< pos.val else 0#8

/-- `PackFlags(F)` under FLAG_LAYOUT; a bit without a flag is 0 (R28). -/
def packFlags (l : FlagLayout) (f : Flags) : Byte :=
  flagBit l.z f.z ||| flagBit l.n f.n ||| flagBit l.c f.c ||| flagBit l.v f.v ||| flagBit l.lt f.lt
    ||| flagBit l.gt f.gt ||| flagBit l.i f.i

/-- `UnpackFlags(b)`: each flag from its bit; the other bit is ignored (R28). -/
def unpackFlags (l : FlagLayout) (b : Byte) : Flags where
  z := b.getLsbD l.z
  n := b.getLsbD l.n
  c := b.getLsbD l.c
  v := b.getLsbD l.v
  lt := b.getLsbD l.lt
  gt := b.getLsbD l.gt
  i := b.getLsbD l.i

/-! ## Operations at width w (R141): an optional result and the flags after the operation -/

/-- The outcome of Op(a, b): the result if there is one, and the flags with the operation's writes made (R141). -/
structure AluOut (w : Nat) where
  result : Option (BitVec w)
  flags : Flags

/-- A two-operand operation: flags before, a (the value of R1), b. -/
abbrev AluOp (w : Nat) := Flags → BitVec w → BitVec w → AluOut w

/-- A one-operand operation: flags before, a. -/
abbrev AluOp1 (w : Nat) := Flags → BitVec w → AluOut w

/-- `ZN(r)`: Z is set iff r = 0, N is bit w-1 of r (R200). -/
def setZN {w : Nat} (r : BitVec w) (f : Flags) : Flags := { f with z := decide (r = 0), n := r.msb }

/-- `C_add`: a + b does not fit in w bits (R200). -/
def carryAdd {w : Nat} (a b : BitVec w) : Bool := decide (2 ^ w ≤ a.toNat + b.toNat)

/-- `V_add`: the operands have one sign and the result the other (R200). -/
def overflowAdd {w : Nat} (a b r : BitVec w) : Bool := (a.msb == b.msb) && (r.msb != a.msb)

/-- `C_sub`: unsigned borrow (R200, D14). -/
def carrySub {w : Nat} (a b : BitVec w) : Bool := decide (a.toNat < b.toNat)

/-- `V_sub`: the operands differ in sign and the result's sign is not a's (R200). -/
def overflowSub {w : Nat} (a b r : BitVec w) : Bool := (a.msb != b.msb) && (r.msb != a.msb)

/-- ADD, ADDB (R201, R202). -/
def aluAdd {w : Nat} : AluOp w := fun f a b =>
  let r := a + b
  { result := some r, flags := { setZN r f with c := carryAdd a b, v := overflowAdd a b r } }

/-- SUB, SUBB (R203, R204). -/
def aluSub {w : Nat} : AluOp w := fun f a b =>
  let r := a - b
  { result := some r, flags := { setZN r f with c := carrySub a b, v := overflowSub a b r } }

/-- INC, INCB: C and V retained (R205, R206). -/
def aluInc {w : Nat} : AluOp1 w := fun f a =>
  let r := a + 1#w
  { result := some r, flags := setZN r f }

/-- DEC, DECB: C and V retained (R207, R208). -/
def aluDec {w : Nat} : AluOp1 w := fun f a =>
  let r := a - 1#w
  { result := some r, flags := setZN r f }

/-- AND, ANDB (R221, R222). -/
def aluAnd {w : Nat} : AluOp w := fun f a b =>
  let r := a &&& b
  { result := some r, flags := setZN r f }

/-- OR, ORB (R223, R224). -/
def aluOr {w : Nat} : AluOp w := fun f a b =>
  let r := a ||| b
  { result := some r, flags := setZN r f }

/-- XOR, XORB (R225, R226). -/
def aluXor {w : Nat} : AluOp w := fun f a b =>
  let r := a ^^^ b
  { result := some r, flags := setZN r f }

/-- NOT, NOTB (R227, R228). -/
def aluNot {w : Nat} : AluOp1 w := fun f a =>
  let r := ~~~a
  { result := some r, flags := setZN r f }

/-- SHL, SHLB: C is the bit shifted out, a[w-1] (R240, R241, R242). -/
def aluShl {w : Nat} : AluOp1 w := fun f a =>
  let r := a <<< 1
  { result := some r, flags := { setZN r f with c := a.msb } }

/-- SHR, SHRB: logical, C is a[0] (R240, R243, R244). -/
def aluShr {w : Nat} : AluOp1 w := fun f a =>
  let r := a >>> 1
  { result := some r, flags := { setZN r f with c := a.getLsbD 0 } }

/-- ROL, ROLB: a w-bit rotate; C is a copy of a[w-1] (R240, R245, R246). -/
def aluRol {w : Nat} : AluOp1 w := fun f a =>
  let r := a <<< 1 ||| (BitVec.ofBool a.msb).setWidth w
  { result := some r, flags := { setZN r f with c := a.msb } }

/-- ROR, RORB: a w-bit rotate; C is a copy of a[0] (R240, R247, R248). -/
def aluRor {w : Nat} : AluOp1 w := fun f a =>
  let r := a >>> 1 ||| (BitVec.ofBool (a.getLsbD 0)).setWidth w <<< (w - 1)
  { result := some r, flags := { setZN r f with c := a.getLsbD 0 } }

/-- CMP, CMPB: unsigned; writes Z, LT, GT and no result (R260, R261, R262). -/
def aluCmp {w : Nat} : AluOp w := fun f a b =>
  { result := none
    flags := { f with z := decide (a = b), lt := decide (a.toNat < b.toNat), gt := decide (b.toNat < a.toNat) } }

/-- MOV, MOVB: the second operand, Z and N from it (R280, R281, R282). -/
def aluMov {w : Nat} : AluOp w := fun f _ b => { result := some b, flags := setZN b f }

/-! ## Branch conditions (R320) -/

/-- JMP, JSR. -/
def condTrue (_ : Flags) : Bool := true

/-- BEQ. -/
def condEq (f : Flags) : Bool := f.z

/-- BNE. -/
def condNe (f : Flags) : Bool := !f.z

/-- BCS. -/
def condCs (f : Flags) : Bool := f.c

/-- BCC. -/
def condCc (f : Flags) : Bool := !f.c

/-- BMI. -/
def condMi (f : Flags) : Bool := f.n

/-- BPL. -/
def condPl (f : Flags) : Bool := !f.n

/-- BVS. -/
def condVs (f : Flags) : Bool := f.v

/-- BVC. -/
def condVc (f : Flags) : Bool := !f.v

/-- BLT. -/
def condLt (f : Flags) : Bool := f.lt

/-- BGT. -/
def condGt (f : Flags) : Bool := f.gt

end Sys2Proof.Machine
end

