-- ==== Sys2Proof/Machine/Ops.lean ====
section
/-! DEFINITION. The named operations over registers, memory, ports and the engine: register selectors (spec 10_state.md R22 to R24), the memory and the devices (20_memory.md R73 to R78), bus requests (40_engine.md R121, R122), interrupt sampling (60_exceptions.md R401), one system step of any cycle (40_engine.md R120, 60_exceptions.md R431), the finish step (R126), fetch (R124), reset (70_reset_and_hazards.md R450, R451), taking an interrupt (60_exceptions.md R413 to R417) and the return from it (40_engine.md R149). -/

namespace Sys2Proof.Machine

/-! ## Registers and selectors -/

/-- The four general registers A, B, C, D, index 0..3 (R20). -/
inductive RegName where
  | A
  | B
  | C
  | D
  deriving DecidableEq, Repr

/-- What a selector names: a full register or a half of one (R22). -/
inductive Target where
  | full (r : RegName)
  | half (r : RegName) (high : Bool)
  deriving DecidableEq, Repr

/-- The register whose 2-bit index has these bits. -/
def regOfBits (hi lo : Bool) : RegName :=
  match hi, lo with
  | false, false => .A
  | false, true => .B
  | true, false => .C
  | true, true => .D

/-- Selector decode (R22): with bit 3 clear, bit 2 is ignored and 0..3 and 4..7 name the same registers; with bit 3 set,
HALF_SEL_LAYOUT gives the register and the half. -/
def decodeSelector (l : HalfSelLayout) (sel : Selector) : Target :=
  if sel.getLsbD 3 then
    .half (regOfBits (sel.getLsbD l.regHi) (sel.getLsbD l.regLo)) (sel.getLsbD l.half == l.highWhen)
  else .full (regOfBits (sel.getLsbD 1) (sel.getLsbD 0))

/-- The 16-bit view of a register. -/
def Regs.get (rs : Regs) : RegName → Word
  | .A => rs.a
  | .B => rs.b
  | .C => rs.c
  | .D => rs.d

/-- Write the 16-bit view of a register. -/
def Regs.set (rs : Regs) (r : RegName) (v : Word) : Regs :=
  match r with
  | .A => { rs with a := v }
  | .B => { rs with b := v }
  | .C => { rs with c := v }
  | .D => { rs with d := v }

/-- A register with its high byte replaced (R21). -/
def setHigh (w : Word) (b : Byte) : Word := joinWord b (loByte w)

/-- A register with its low byte replaced (R21). -/
def setLow (w : Word) (b : Byte) : Word := joinWord (hiByte w) b

/-- The byte of a half. -/
def halfOf (high : Bool) (w : Word) : Byte := if high then hiByte w else loByte w

/-- The value of a target; a half is zero-extended (R23). -/
def readTarget (rs : Regs) : Target → Word
  | .full r => rs.get r
  | .half r high => (halfOf high (rs.get r)).setWidth 16

/-- Write a target; a half takes v[7:0] and the other half keeps its value (R24). -/
def writeTarget (rs : Regs) (t : Target) (v : Word) : Regs :=
  match t with
  | .full r => rs.set r v
  | .half r true => rs.set r (setHigh (rs.get r) (loByte v))
  | .half r false => rs.set r (setLow (rs.get r) (loByte v))

/-- `ReadSel(s)` (R23). -/
def readSel (s : State) (sel : Selector) : Word := readTarget s.regs (decodeSelector s.cfg.halfSel sel)

/-- `WriteSel(s, v)` (R24). -/
def writeSel (sel : Selector) (v : Word) (s : State) : State :=
  { s with regs := writeTarget s.regs (decodeSelector s.cfg.halfSel sel) v }

/-! ## Address arithmetic -/

/-- `a + k` modulo 2^24 for any integer k (R29). -/
def offsetAddr (a : Addr) (k : Int) : Addr := BitVec.ofInt 24 (a.toNat + k)

/-- `SA(sp)`: the page in the bank position, the offset below it (R31). -/
def stackAddr (s : State) : Addr := joinAddr s.cfg.stackPage s.sp

/-! ## Memory cells -/

/-- The listed byte of an address. -/
def lookupCell (k : Nat) : Memory → Option Byte
  | [] => none
  | (k', b) :: rest => if k' = k then some b else lookupCell k rest

/-- List a byte, keeping addresses rising. -/
def insertCell (k : Nat) (v : Byte) : Memory → Memory
  | [] => [(k, v)]
  | (k', b) :: rest =>
    if k < k' then (k, v) :: (k', b) :: rest
    else if k = k' then (k, v) :: rest
    else (k', b) :: insertCell k v rest

/-- Drop an address from the list. -/
def eraseCell (k : Nat) (m : Memory) : Memory := m.filter (fun c => c.1 != k)

/-- The device claims the address (R73). -/
def claims (d : MemDevice) (a : Addr) : Bool := d.first ≤ a && a ≤ d.last

/-- The first device in registration order whose range claims the address (R74). -/
def firstDevice (p : Platform) (a : Addr) : Option MemDevice := p.devices.find? (fun d => claims d a)

/-- What an unlisted address reads as: the fill of its device, 0x00 in ROM past the image, no value in RAM (R77, R78,
log entry 2); no value where there is no device. -/
def unlisted (p : Platform) (a : Addr) : Option Byte := (firstDevice p a).bind (fun d => d.fill)

/-- The byte stored at an address, if it has a value: `mem[a]` of R74. -/
def readCell (p : Platform) (m : Memory) (a : Addr) : Option Byte :=
  match lookupCell a.toNat m with
  | some b => some b
  | none => unlisted p a

/-- Store a byte: `mem[a] <- v`, in the canonical form. -/
def writeCell (p : Platform) (m : Memory) (a : Addr) (v : Byte) : Memory :=
  if unlisted p a = some v then eraseCell a.toNat m else insertCell a.toNat v m

/-- The canonical form: addresses strictly rising and below 2^24, no entry equal to what the address reads as unlisted. -/
abbrev Memory.wf (p : Platform) (m : Memory) : Prop :=
  m.Pairwise (fun x y => x.1 < y.1) ∧
    ∀ c ∈ m, c.1 < 2 ^ 24 ∧ unlisted p (BitVec.ofNat 24 c.1) ≠ some c.2

/-- Store a list of bytes at consecutive addresses modulo 2^24. -/
def writeBytes (p : Platform) (m : Memory) (a : Addr) : List Byte → Memory
  | [] => m
  | b :: rest => writeBytes p (writeCell p m a b) (a + 1) rest

/-- The byte of memory a state holds at an address, if it has a value. -/
def readByte (s : State) (a : Addr) : Option Byte := readCell s.cfg.platform s.mem a

/-! ## Resolution of a transaction (R74, R75) -/

/-- A two-byte memory answer, big-endian (R66), or no value. -/
def joinCells (hi lo : Option Byte) : Option Word :=
  match hi, lo with
  | some h, some l => some (joinWord h l)
  | _, _ => none

/-- A rule fits a request on the memory bus; a read carries no data. -/
def busRuleFits (r : BusRule) (a : Addr) (wide : Bool) (data : Option Word) : Bool :=
  r.addr.all (· == a) && r.wide.all (· == wide) && r.data.all (fun d => data == some d)

/-- What the first rule that fits answers; with none, no value (log entry 12). -/
def busAnswer (rs : List BusRule) (a : Addr) (wide : Bool) (data : Option Word) : DeviceResult :=
  match rs.find? (fun r => busRuleFits r a wide data) with
  | some r => r.result
  | none => .noValue

/-- A rule fits a request on the IO bus; a read carries no data. -/
def ioRuleFits (r : IoRule) (port : Byte) (data : Option Byte) : Bool :=
  r.port.all (· == port) && r.data.all (fun d => data == some d)

/-- What the first rule that fits answers; with none, no value (log entry 12). -/
def ioAnswer (rs : List IoRule) (port : Byte) (data : Option Byte) : DeviceResult :=
  match rs.find? (fun r => ioRuleFits r port data) with
  | some r => r.result
  | none => .noValue

/-- What resolution makes of the result of a read (R74, R430): a value of the requested width, in data[7:0] with
data[15:8] = 0 if it is a byte (R67), or the fault. -/
def readOutcome (place : BusPlace) (wide : Bool) (r : DeviceResult) : Except FaultReg Word :=
  match r with
  | .value8 b => if wide then .error (.busNoValue place false) else .ok (b.setWidth 16)
  | .value16 w => if wide then .ok w else .error (.busNoValue place false)
  | .writeOnly => .error (.busWriteOnly place)
  | .noDevice => .error (.busNoDevice place false)
  | .done => .error (.busNoValue place false)
  | .readOnly => .error (.busNoValue place false)
  | .noValue => .error (.busNoValue place false)

/-- What resolution makes of the result of a write that no memory stores (R74, R430): what the device accepted, or the
fault. -/
def writeOutcome (place : BusPlace) (taken : Accepted) (r : DeviceResult) : Except FaultReg (List Accepted) :=
  match r with
  | .done => .ok [taken]
  | .readOnly => .error (.busReadOnly place)
  | .noDevice => .error (.busNoDevice place true)
  | .value8 _ => .error (.busNoValue place true)
  | .value16 _ => .error (.busNoValue place true)
  | .writeOnly => .error (.busNoValue place true)
  | .noValue => .error (.busNoValue place true)

/-- What a RAM or ROM device answers to a read (R74): the stored bytes, or no value if one has none (R78). -/
def memoryResult (p : Platform) (m : Memory) (a : Addr) (wide : Bool) : DeviceResult :=
  if wide then
    match joinCells (readCell p m a) (readCell p m (a + 1)) with
    | some w => .value16 w
    | none => .noValue
  else
    match readCell p m a with
    | some b => .value8 b
    | none => .noValue

/-- What a device answers to a read (R73). -/
def deviceRead (c : Config) (m : Memory) (l : Lines) (d : MemDevice) (a : Addr) (wide : Bool) : DeviceResult :=
  match d.onRead with
  | .memory => memoryResult c.platform m a wide
  | .rules rs => busAnswer rs a wide none
  | .external => busAnswer l.busReads a wide none

/-- A read of one byte (`wide` false) or two at `a` (R74): the value on the data lane, or the fault. -/
def memRead (c : Config) (m : Memory) (l : Lines) (a : Addr) (wide : Bool) : Except FaultReg Word :=
  match firstDevice c.platform a with
  | none => .error (.busNoDevice (.mem a) false)
  | some d =>
    if wide && !claims d (a + 1) then .error (.busSplit a)
    else readOutcome (.mem a) wide (deviceRead c m l d a wide)

/-- A write answered by rules: memory stays, the device accepts or refuses. -/
def deviceWrite (m : Memory) (rs : List BusRule) (a : Addr) (wide : Bool) (v : Word) :
    Except FaultReg (Memory × List Accepted) :=
  match writeOutcome (.mem a) (.bus a wide v) (busAnswer rs a wide (some v)) with
  | .ok log => .ok (m, log)
  | .error f => .error f

/-- A write of one byte (data[7:0]) or two at `a` (R74): the memory after it and what a device without memory accepted,
or the fault. A faulting write changes no byte (R431). -/
def memWrite (c : Config) (m : Memory) (l : Lines) (a : Addr) (wide : Bool) (v : Word) :
    Except FaultReg (Memory × List Accepted) :=
  match firstDevice c.platform a with
  | none => .error (.busNoDevice (.mem a) true)
  | some d =>
    if wide && !claims d (a + 1) then .error (.busSplit a)
    else
      match d.onWrite with
      | .store => .ok (writeBytes c.platform m a (if wide then [hiByte v, loByte v] else [loByte v]), [])
      | .rules rs => deviceWrite m rs a wide v
      | .external => deviceWrite m l.busWrites a wide v

/-- The IO device whose port equals the address, first match (R75). -/
def firstIoDevice (p : Platform) (port : Byte) : Option IoDevice := p.ioDevices.find? (fun d => d.port == port)

/-- The rules by which an IO device answers in a cycle whose external rules are `ext`. -/
def ioRulesIn (ext : List IoRule) : IoAnswer → List IoRule
  | .rules rs => rs
  | .external => ext

/-- An IO read (R75): the byte, or the fault with the code of R430 (90_conflicts.md C4, log entry 8). -/
def ioReadResult (c : Config) (l : Lines) (port : Byte) : Except FaultReg Byte :=
  match firstIoDevice c.platform port with
  | none => .error (.busNoDevice (.io port) false)
  | some d =>
    match readOutcome (.io port) false (ioAnswer (ioRulesIn l.ioReads d.onRead) port none) with
    | .ok v => .ok (loByte v)
    | .error f => .error f

/-- An IO write (R75): what the device accepted, or the fault with the code of R430 (90_conflicts.md C4, log entry 8). -/
def ioWriteResult (c : Config) (l : Lines) (port value : Byte) : Except FaultReg (List Accepted) :=
  match firstIoDevice c.platform port with
  | none => .error (.busNoDevice (.io port) true)
  | some d => writeOutcome (.io port) (.io port value) (ioAnswer (ioRulesIn l.ioWrites d.onWrite) port (some value))

/-- `raise <Fault>(info)`: set the sticky fault register (R9, R430). -/
def raise (f : FaultReg) (s : State) : State := { s with fault := some f }

/-- Resolve the memory transaction the cycle requested, if any (R62, R74). -/
def resolveMem (s : State) : State :=
  if s.busEnable then
    if s.rw then
      match memWrite s.cfg s.mem s.lines s.address s.word s.data with
      | .ok (m, log) => { s with mem := m, accepted := log ++ s.accepted }
      | .error f => raise f s
    else
      match memRead s.cfg s.mem s.lines s.address s.word with
      | .ok v => { s with data := v }
      | .error f => raise f s
  else s

/-- Resolve the IO transaction the cycle requested, if any (R75). -/
def resolveIo (s : State) : State :=
  if s.ioEnable then
    if s.ioRw then
      match ioWriteResult s.cfg s.lines s.ioAddress s.ioData with
      | .ok log => { s with accepted := log ++ s.accepted }
      | .error f => raise f s
    else
      match ioReadResult s.cfg s.lines s.ioAddress with
      | .ok b => { s with ioData := b }
      | .error f => raise f s
  else s

/-- Resolution after a cycle; it raises at most one fault (R433). -/
def resolve (s : State) : State :=
  let t := resolveMem s
  if t.fault.isSome then t else resolveIo t

/-! ## Requests (R121, R122) -/

/-- `BusRead(a, n)`, `wide` for n = 2 (R121). -/
def busRead (a : Addr) (wide : Bool) (s : State) : State :=
  { s with busEnable := true, address := a, rw := false, word := wide }

/-- `BusWrite(a, n, v)`; a byte is driven with data[15:8] = 0 (R67, R121). -/
def busWrite (a : Addr) (wide : Bool) (v : Word) (s : State) : State :=
  { s with busEnable := true, address := a, rw := true, word := wide,
           data := if wide then v else (loByte v).setWidth 16 }

/-- `IoRead(p)` (R122). -/
def ioRead (port : Byte) (s : State) : State :=
  { s with ioEnable := true, ioAddress := port, ioRw := false }

/-- `IoWrite(p, v)` (R122). -/
def ioWrite (port v : Byte) (s : State) : State :=
  { s with ioEnable := true, ioAddress := port, ioRw := true, ioData := v }

/-- A byte push: write at SA(sp), then sp + 1 modulo 2^16 (R31). -/
def pushByte (v : Byte) (s : State) : State :=
  let t := busWrite (stackAddr s) false (v.setWidth 16) s
  { t with sp := s.sp + 1 }

/-- A byte pop's request: sp - 1 modulo 2^16, then read at the new SA(sp) (R31). -/
def popByte (s : State) : State :=
  let t := { s with sp := s.sp - 1 }
  busRead (stackAddr t) false t

/-! ## One system step -/

/-- What a cycle does to the engine, between the default drive and the counter's increment (R120). -/
abbrev Action := State → State

/-- RAM: a device that keeps what is written and answers with it. -/
def isRam (d : MemDevice) : Bool := d.onRead == .memory && d.onWrite == .store

/-- Writes of other bus owners: they change RAM bytes only (R85). -/
def externalWrites (p : Platform) (m : Memory) : List (Addr × Byte) → Memory
  | [] => m
  | (a, b) :: rest =>
    let m' := match firstDevice p a with
      | some d => if isRam d then writeCell p m a b else m
      | none => m
    externalWrites p m' rest

/-- What the environment does before a cycle: the next entry of `stim` gives the pin levels and, when EXTERNAL_WRITERS is
true, RAM writes (R85); with no entry left the levels stay (log entry 4). -/
def environment (s : State) : State :=
  match s.stim with
  | [] => s
  | e :: rest =>
    { s with stim := rest, lines := e.lines,
             mem := if s.cfg.externalWriters then externalWrites s.cfg.platform s.mem e.writes else s.mem }

/-- `SampleInterrupts` (R401): IRQ before an NMI edge, only when nothing is latched. -/
def sample (s : State) : State :=
  { s with
    nmiPrev := s.lines.nmi
    istat :=
      if s.istat = .none then
        if s.lines.irq && !s.flags.i then .irq
        else if s.lines.nmi && !s.nmiPrev then .nmi else .none
      else s.istat }

/-- Default drive (R123). -/
def defaultDrive (s : State) : State := { s with busEnable := false, ioEnable := false, irqAck := false }

/-- The outcome that ends a run, by fault code (R430), with the state the spec leaves (R431). -/
def faultOf (f : FaultReg) (s : State) : Fault :=
  match f with
  | .configUnknownOpcode _ _ => .configUnknownOpcode s
  | .configTable _ => .configTable s
  | .configImage _ => .configImage s
  | .busNoDevice _ _ => .busNoDevice s
  | .busReadOnly _ => .busReadOnly s
  | .busWriteOnly _ => .busWriteOnly s
  | .busNoValue _ _ => .busNoValue s
  | .busSplit _ => .busSplit s
  | .seqRange _ _ => .seqRange s

/-- A state is the next one unless its fault register is set (R39, R433). -/
def settle (s : State) : Result :=
  match s.fault with
  | none => .next s
  | some f => .fault (faultOf f s)

/-- The engine's part of a cycle (R120): sample, default drive, the action, and the counter's increment unless the action
raised a fault. -/
def engineCycle (act : Action) (s : State) : State :=
  let t := act (defaultDrive (sample s))
  if t.fault.isSome then t else { t with cyc := t.cyc + 1 }

/-- One system step: the environment's part before the cycle, `cycle()`, and the resolution of what it requested (R120,
R431). With a fault recorded nothing changes (R433). A fault raised by the engine stops before any transaction. -/
def tick (act : Action) (s : State) : Result :=
  match s.fault with
  | some f => .fault (faultOf f s)
  | none =>
    let t := engineCycle act (environment s)
    if t.fault.isSome then settle t else settle (resolve t)

/-- Go on from a next state. -/
def andThen (r : Result) (k : State → Result) : Result :=
  match r with
  | .next s => k s
  | .fault f => .fault f
  | .refused f => .refused f

/-- Run the cycles of a sequence, one system step each. -/
def runCycles : List Action → State → Result
  | [], s => .next s
  | act :: rest, s => andThen (tick act s) (runCycles rest)

/-! ## Shared sequences -/

/-- The finish step (R126): Halt stays, else a latched interrupt is taken, else the next fetch. -/
def finish (s : State) : State :=
  { s with
    cyc := 0
    busEnable := false
    ioEnable := false
    phase := if s.phase = .halt then .halt else if s.istat ≠ .none then .interrupt else .fetch }

/-- Fetch cycles 1 to 3 (R124). -/
def fetchCycles : List Action :=
  [ fun s => busRead s.pc false s,
    fun s =>
      let t := { s with irOp := loByte s.data, pc := s.pc + 1 }
      busRead t.pc true t,
    fun s => { s with irMeta := s.data, pc := s.pc + 2, phase := .execute, cyc := 0 } ]

/-- Reset cycles 1 to 3 (R451). -/
def resetCycles : List Action :=
  [ fun s => busRead 0x000000 false s,
    fun s => busRead 0x000001 true { s with scr := joinAddr (loByte s.data) (segOf s.scr) },
    fun s =>
      let target := joinAddr (bankOf s.scr) s.data
      { s with scr := target, pc := target, phase := .fetch, cyc := 0 } ]

/-- The vector slot of the latched interrupt (R412, R414). -/
def vectorSlot (s : State) : Addr :=
  if s.istat = .irq then s.cfg.vectorBase + BitVec.ofNat 24 (3 * s.lines.vector.toNat) else s.cfg.nmiVectorAddr

/-- Interrupt cycles 1 to 8 (R413 to R417): acknowledge, vector read, push of the flag byte and of pc, jump. -/
def interruptCycles : List Action :=
  [ fun s => { s with irqAck := true },
    fun s =>
      let slot := vectorSlot s
      busRead slot false { s with scr := slot },
    fun s =>
      let t := busRead (s.scr + 1) true s
      { t with scr := joinAddr (loByte s.data) (segOf s.scr) },
    fun s => pushByte (packFlags s.cfg.flagLayout s.flags) { s with scr := joinAddr (bankOf s.scr) s.data },
    fun s => pushByte (bankOf s.pc) s,
    fun s => pushByte (hiByte (segOf s.pc)) s,
    fun s => pushByte (loByte (segOf s.pc)) s,
    fun s =>
      { s with pc := s.scr, phase := .fetch, cyc := 0,
               istat := if s.istat = .irq || s.cfg.nmiClearsLatch then .none else s.istat } ]

/-- TAKING AN INTERRUPT: the Interrupt sequence as one operation (R413). -/
def takeInterrupt (s : State) : Result := runCycles interruptCycles s

/-- Return cycles 1 to 3 of RTS and RTI: pop the low, high and bank byte of the address (R149). -/
def returnPops : List Action :=
  [ fun s => popByte s,
    fun s => popByte { s with scr := joinAddr (bankOf s.scr) (joinWord (hiByte (segOf s.scr)) (loByte s.data)) },
    fun s => popByte { s with scr := joinAddr (bankOf s.scr) (joinWord (loByte s.data) (loByte (segOf s.scr))) } ]

/-- The address assembled once the bank byte is on the data lane (R149). -/
def returnTarget (s : State) : Addr := joinAddr (loByte s.data) (segOf s.scr)

/-- RETURN FROM INTERRUPT (R149, R324, R420): the three address pops, the pop of the flag byte, then all flags and pc. -/
def returnFromInterrupt : List Action :=
  returnPops ++
    [ fun s => popByte { s with scr := returnTarget s },
      fun s => finish { s with flags := unpackFlags s.cfg.flagLayout (loByte s.data), pc := s.scr } ]

/-- A cycle in state Halt: the counter rolls back by one (R365). -/
def haltCycle : Action := fun s => { s with cyc := s.cyc - 1 }

/-! ## Construction and reset() -/

/-- The configuration fault that construction and every reset() record (R432, R450). -/
def configFault (c : Config) : Option FaultReg :=
  match firstBadRow c.opcodeTable with
  | some op => some (.configTable op)
  | none => if imageFits c.platform then none else some (.configImage c.platform.image.length)

/-- reset(), a host action between two system steps (R450, R455): memory, devices and the environment are untouched, and
the fields that R42 calls unspecified keep their values. -/
def hostReset (s : State) : State :=
  { s with
    regs := { a := 0, b := 0, c := 0, d := 0 }
    flags := { z := false, n := false, c := false, v := false, lt := false, gt := false, i := false }
    pc := 0x000000
    sp := s.cfg.spReset
    phase := .reset
    cyc := 1
    istat := .none
    nmiPrev := false
    fault := configFault s.cfg
    busEnable := false
    ioEnable := false
    irqAck := false }

/-- The ROM image as memory: verbatim from ROM_BASE on (R77). Where ROM_BASE lies above the start of the device claiming
it, the bytes that run past the device's end go to the addresses that follow, modulo 2^24: the spec does not treat the
case (log entry 11, DESIGN CHOICE). -/
def loadImage (p : Platform) : Memory := writeBytes p [] p.romBase p.image

/-- Construction under a configuration: the image is loaded and reset() performed (R77, R450, D47). An image that is too
long is not loaded, not even in part: the spec does not say what memory then holds (log entry 15, DESIGN CHOICE). -/
def construct (c : Config) : State :=
  hostReset { State.reset with cfg := c, mem := if imageFits c.platform then loadImage c.platform else [] }

end Sys2Proof.Machine
end

