-- ==== Sys2Proof/Machine/Operands.lean ====
section
/-! DEFINITION. The operand forms: the resolver (spec 40_engine.md R130 to R134) and the Execute cycles of every template (R141 to R149). The operand bytes of an instruction are read by its `operandCycles`; the cycles of a meaning come after them and take the operand from the instruction. -/

namespace Sys2Proof.Machine

/-! ## Cycles that read the operand bytes -/

/-- T-IMM and T-IO-IMM cycle 1: request the literal, advance pc over it (R141, R148). -/
def literalCycle (wide : Bool) : Action := fun s =>
  let t := busRead s.pc wide s
  { t with pc := s.pc + if wide then 2 else 1 }

/-- Resolver cycle 1: request the bank byte, advance pc (R133). -/
def bankCycle : Action := fun s =>
  let t := busRead s.pc false s
  { t with pc := s.pc + 1 }

/-- Resolver cycle 2: latch the bank byte, request the segment word, advance pc by 2 (R133). -/
def segmentCycle : Action := fun s =>
  let t := busRead s.pc true { s with scr := joinAddr (loByte s.data) (segOf s.scr) }
  { t with pc := s.pc + 2 }

/-- The first Execute cycles of a mode, those that read the operand bytes (R133, R141, R148). -/
def operandCycles (mn : Mnemonic) : Mode → List Action
  | .implied => []
  | .register => []
  | .immediate => [literalCycle (!mn.isByte)]
  | .absolute => [bankCycle, segmentCycle]

/-! ## Resolver cycle 3 -/

/-- `IndexValue(s)`: a full register read as signed 16 bits, a half as signed 8 bits (R134). -/
def indexValue (s : State) (sel : Selector) : Int :=
  match decodeSelector s.cfg.halfSel sel with
  | .full r => (s.regs.get r).toInt
  | .half r high => (halfOf high (s.regs.get r)).toInt

/-- The offset of an Absolute operand: sign-magnitude displacement or signed index register (R95, R134). -/
def offsetValue (s : State) : Offset → Int
  | .disp neg mag => if neg then -(mag.toNat : Int) else (mag.toNat : Int)
  | .index r2 => indexValue s r2

/-- The effective address (R95, R134). -/
def effectiveAddr (s : State) (m : AbsOperand) : Addr := offsetAddr (joinAddr m.bank m.seg) (offsetValue s m.offset)

/-- Resolver cycle 3: the effective address into scr (R134). -/
def resolveAddr (m : AbsOperand) (s : State) : State := { s with scr := effectiveAddr s m }

/-! ## Operations on operands (R100, R141) -/

/-- An operand at width w: `ReadSel(sel) mod 2^w` (R100). -/
def operand (w : Nat) (s : State) (sel : Selector) : BitVec w := (readSel s sel).setWidth w

/-- `Apply(Op, a, b)` without its reads: the flag writes, then the write of a result to R1, zero-extended (R141). -/
def applyOut {w : Nat} (r1 : Selector) (out : AluOut w) (s : State) : State :=
  let t := { s with flags := out.flags }
  match out.result with
  | some r => writeSel r1 (r.setWidth 16) t
  | none => t

/-- The last cycle of an ALU-class instruction: read R1, apply the operation to b, finish (R141, R142, R144). -/
def aluFinish (w : Nat) (op : AluOp w) (r1 : Selector) (b : BitVec w) : Action := fun s =>
  finish (applyOut r1 (op s.flags (operand w s r1) b) s)

/-- T-REG, two operands (R144). -/
def regCycle (w : Nat) (op : AluOp w) (r1 r2 : Selector) : Action := fun s =>
  aluFinish w op r1 (operand w s r2) s

/-- T-REG, one operand (R144). -/
def regCycle1 (w : Nat) (op : AluOp1 w) (r1 : Selector) : Action := fun s =>
  finish (applyOut r1 (op s.flags (operand w s r1)) s)

/-- T-ABS-READ cycle 3: the effective address, then the request of the operand (R142). -/
def loadRequest (wide : Bool) (m : AbsOperand) : Action := fun s =>
  let t := resolveAddr m s
  busRead t.scr wide t

/-- T-ABS-READ cycle 4: the operation on the value read (R142). -/
def loadFinish (w : Nat) (op : AluOp w) (r1 : Selector) : Action := fun s =>
  aluFinish w op r1 (s.data.setWidth w) s

/-- T-ABS-STORE cycle 3: the effective address, then the write of R1 (R143). -/
def storeRequest (wide : Bool) (r1 : Selector) (m : AbsOperand) : Action := fun s =>
  let t := resolveAddr m s
  busWrite t.scr wide (readSel t r1) t

/-- T-IMP: the effect, then finish (R145). -/
def impliedCycle (effect : State → State) : Action := fun s => finish (effect s)

/-- T-JUMP cycle 3 (R146). -/
def jumpCycle (cond : Flags → Bool) (m : AbsOperand) : Action := fun s =>
  let t := resolveAddr m s
  finish (if cond t.flags then { t with pc := t.scr } else t)

/-- T-CALL cycles 3 to 6 (R147): push the return address bank, high, low; jump. -/
def callTemplate (m : AbsOperand) : List Action :=
  [ fun s =>
      let t := resolveAddr m s
      pushByte (bankOf t.pc) t,
    fun s => pushByte (hiByte (segOf s.pc)) s,
    fun s => pushByte (loByte (segOf s.pc)) s,
    fun s => finish { s with pc := s.scr } ]

/-! ## Stack templates (R149) -/

/-- The byte count of a transfer as a stack offset. -/
def transferSize (wide : Bool) : Word := if wide then 2 else 1

/-- T-PUSH (R149, R300): write R1 at SA(sp), then advance sp by the byte count. -/
def pushTemplate (wide : Bool) (r1 : Selector) : List Action :=
  [ fun s =>
      let t := busWrite (stackAddr s) wide (readSel s r1) s
      { t with sp := s.sp + transferSize wide },
    finish ]

/-- T-POP (R149, R300): step sp back by the byte count, read at SA(sp), write R1. -/
def popTemplate (wide : Bool) (r1 : Selector) : List Action :=
  [ fun s =>
      let t := { s with sp := s.sp - transferSize wide }
      busRead (stackAddr t) wide t,
    fun s => finish (writeSel r1 (if wide then s.data else (loByte s.data).setWidth 16) s) ]

/-- T-RET cycles 1 to 4 (R149). -/
def returnTemplate : List Action :=
  returnPops ++ [ fun s => finish { s with scr := returnTarget s, pc := returnTarget s } ]

/-! ## IO templates (R148) -/

/-- The port number into scr[7:0] (R148). -/
def latchPort (port : Byte) (s : State) : State :=
  { s with scr := joinAddr (bankOf s.scr) (joinWord (hiByte (segOf s.scr)) port) }

/-- The port of the Register form: bits 7..0 of R2 (R148). -/
def portOf (s : State) (r2 : Selector) : Byte := loByte (readSel s r2)

/-- IoOp of IN (R148, R361). -/
def inRequest (port : Byte) (s : State) : State := ioRead port (latchPort port s)

/-- IoOp of OUT (R148, R362). -/
def outRequest (r1 : Selector) (port : Byte) (s : State) : State :=
  let t := latchPort port s
  ioWrite port (loByte (readSel t r1)) t

/-- IoDone of IN: the byte to R1, zero-extended; finish (R148, R361). -/
def inFinish (r1 : Selector) : Action := fun s => finish (writeSel r1 (s.ioData.setWidth 16) s)

end Sys2Proof.Machine
end

