-- ==== Sys2Proof/Machine/Arithmetic.lean ====
section
/-! DEFINITION. The arithmetic instructions (spec 41_arithmetic.md R200 to R208). For each opcode-table row: its Execute cycles after its operand bytes are read, and its meaning, those cycles run. -/

namespace Sys2Proof.Machine

/-- ADD, Immediate, opcode 0x05, w = 16 (R201; T-IMM, R141). -/
def addImmCycles (r1 : Selector) (imm : Word) : List Action :=
  [aluFinish 16 aluAdd r1 imm]

/-- The meaning of ADD, Immediate (R201). -/
def execAddImm (r1 : Selector) (imm : Word) (s : State) : Result := runCycles (addImmCycles r1 imm) s

/-- ADD, Register, opcode 0x06, w = 16 (R201; T-REG, R144). -/
def addRegCycles (r1 : Selector) (r2 : Selector) : List Action :=
  [regCycle 16 aluAdd r1 r2]

/-- The meaning of ADD, Register (R201). -/
def execAddReg (r1 : Selector) (r2 : Selector) (s : State) : Result := runCycles (addRegCycles r1 r2) s

/-- ADD, Absolute, opcode 0x07, w = 16 (R201; T-ABS-READ, R142). -/
def addAbsCycles (r1 : Selector) (m : AbsOperand) : List Action :=
  [loadRequest true m, loadFinish 16 aluAdd r1]

/-- The meaning of ADD, Absolute (R201). -/
def execAddAbs (r1 : Selector) (m : AbsOperand) (s : State) : Result := runCycles (addAbsCycles r1 m) s

/-- ADDB, Immediate, opcode 0x09, w = 8 (R202; T-IMM, R141). -/
def addbImmCycles (r1 : Selector) (imm : Byte) : List Action :=
  [aluFinish 8 aluAdd r1 imm]

/-- The meaning of ADDB, Immediate (R202). -/
def execAddbImm (r1 : Selector) (imm : Byte) (s : State) : Result := runCycles (addbImmCycles r1 imm) s

/-- ADDB, Register, opcode 0x0A, w = 8 (R202; T-REG, R144). -/
def addbRegCycles (r1 : Selector) (r2 : Selector) : List Action :=
  [regCycle 8 aluAdd r1 r2]

/-- The meaning of ADDB, Register (R202). -/
def execAddbReg (r1 : Selector) (r2 : Selector) (s : State) : Result := runCycles (addbRegCycles r1 r2) s

/-- ADDB, Absolute, opcode 0x0B, w = 8 (R202; T-ABS-READ, R142). -/
def addbAbsCycles (r1 : Selector) (m : AbsOperand) : List Action :=
  [loadRequest false m, loadFinish 8 aluAdd r1]

/-- The meaning of ADDB, Absolute (R202). -/
def execAddbAbs (r1 : Selector) (m : AbsOperand) (s : State) : Result := runCycles (addbAbsCycles r1 m) s

/-- SUB, Immediate, opcode 0x0D, w = 16 (R203; T-IMM, R141). -/
def subImmCycles (r1 : Selector) (imm : Word) : List Action :=
  [aluFinish 16 aluSub r1 imm]

/-- The meaning of SUB, Immediate (R203). -/
def execSubImm (r1 : Selector) (imm : Word) (s : State) : Result := runCycles (subImmCycles r1 imm) s

/-- SUB, Register, opcode 0x0E, w = 16 (R203; T-REG, R144). -/
def subRegCycles (r1 : Selector) (r2 : Selector) : List Action :=
  [regCycle 16 aluSub r1 r2]

/-- The meaning of SUB, Register (R203). -/
def execSubReg (r1 : Selector) (r2 : Selector) (s : State) : Result := runCycles (subRegCycles r1 r2) s

/-- SUB, Absolute, opcode 0x0F, w = 16 (R203; T-ABS-READ, R142). -/
def subAbsCycles (r1 : Selector) (m : AbsOperand) : List Action :=
  [loadRequest true m, loadFinish 16 aluSub r1]

/-- The meaning of SUB, Absolute (R203). -/
def execSubAbs (r1 : Selector) (m : AbsOperand) (s : State) : Result := runCycles (subAbsCycles r1 m) s

/-- SUBB, Immediate, opcode 0x11, w = 8 (R204; T-IMM, R141). -/
def subbImmCycles (r1 : Selector) (imm : Byte) : List Action :=
  [aluFinish 8 aluSub r1 imm]

/-- The meaning of SUBB, Immediate (R204). -/
def execSubbImm (r1 : Selector) (imm : Byte) (s : State) : Result := runCycles (subbImmCycles r1 imm) s

/-- SUBB, Register, opcode 0x12, w = 8 (R204; T-REG, R144). -/
def subbRegCycles (r1 : Selector) (r2 : Selector) : List Action :=
  [regCycle 8 aluSub r1 r2]

/-- The meaning of SUBB, Register (R204). -/
def execSubbReg (r1 : Selector) (r2 : Selector) (s : State) : Result := runCycles (subbRegCycles r1 r2) s

/-- SUBB, Absolute, opcode 0x13, w = 8 (R204; T-ABS-READ, R142). -/
def subbAbsCycles (r1 : Selector) (m : AbsOperand) : List Action :=
  [loadRequest false m, loadFinish 8 aluSub r1]

/-- The meaning of SUBB, Absolute (R204). -/
def execSubbAbs (r1 : Selector) (m : AbsOperand) (s : State) : Result := runCycles (subbAbsCycles r1 m) s

/-- INC, Register, opcode 0x16, w = 16 (R205; T-REG, R144). -/
def incCycles (r1 : Selector) : List Action :=
  [regCycle1 16 aluInc r1]

/-- The meaning of INC, Register (R205). -/
def execInc (r1 : Selector) (s : State) : Result := runCycles (incCycles r1) s

/-- INCB, Register, opcode 0x1A, w = 8 (R206; T-REG, R144). -/
def incbCycles (r1 : Selector) : List Action :=
  [regCycle1 8 aluInc r1]

/-- The meaning of INCB, Register (R206). -/
def execIncb (r1 : Selector) (s : State) : Result := runCycles (incbCycles r1) s

/-- DEC, Register, opcode 0x1E, w = 16 (R207; T-REG, R144). -/
def decCycles (r1 : Selector) : List Action :=
  [regCycle1 16 aluDec r1]

/-- The meaning of DEC, Register (R207). -/
def execDec (r1 : Selector) (s : State) : Result := runCycles (decCycles r1) s

/-- DECB, Register, opcode 0x22, w = 8 (R208; T-REG, R144). -/
def decbCycles (r1 : Selector) : List Action :=
  [regCycle1 8 aluDec r1]

/-- The meaning of DECB, Register (R208). -/
def execDecb (r1 : Selector) (s : State) : Result := runCycles (decbCycles r1) s

end Sys2Proof.Machine
end

