-- ==== Sys2Proof/Machine/Compare.lean ====
section
/-! DEFINITION. The compare instructions (spec 44_compare.md R260 to R262). For each opcode-table row: its Execute cycles after its operand bytes are read, and its meaning, those cycles run. -/

namespace Sys2Proof.Machine

/-- CMP, Immediate, opcode 0x65, w = 16 (R261; T-IMM, R141). -/
def cmpImmCycles (r1 : Selector) (imm : Word) : List Action :=
  [aluFinish 16 aluCmp r1 imm]

/-- The meaning of CMP, Immediate (R261). -/
def execCmpImm (r1 : Selector) (imm : Word) (s : State) : Result := runCycles (cmpImmCycles r1 imm) s

/-- CMP, Register, opcode 0x66, w = 16 (R261; T-REG, R144). -/
def cmpRegCycles (r1 : Selector) (r2 : Selector) : List Action :=
  [regCycle 16 aluCmp r1 r2]

/-- The meaning of CMP, Register (R261). -/
def execCmpReg (r1 : Selector) (r2 : Selector) (s : State) : Result := runCycles (cmpRegCycles r1 r2) s

/-- CMP, Absolute, opcode 0x67, w = 16 (R261; T-ABS-READ, R142). -/
def cmpAbsCycles (r1 : Selector) (m : AbsOperand) : List Action :=
  [loadRequest true m, loadFinish 16 aluCmp r1]

/-- The meaning of CMP, Absolute (R261). -/
def execCmpAbs (r1 : Selector) (m : AbsOperand) (s : State) : Result := runCycles (cmpAbsCycles r1 m) s

/-- CMPB, Immediate, opcode 0x69, w = 8 (R262; T-IMM, R141). -/
def cmpbImmCycles (r1 : Selector) (imm : Byte) : List Action :=
  [aluFinish 8 aluCmp r1 imm]

/-- The meaning of CMPB, Immediate (R262). -/
def execCmpbImm (r1 : Selector) (imm : Byte) (s : State) : Result := runCycles (cmpbImmCycles r1 imm) s

/-- CMPB, Register, opcode 0x6A, w = 8 (R262; T-REG, R144). -/
def cmpbRegCycles (r1 : Selector) (r2 : Selector) : List Action :=
  [regCycle 8 aluCmp r1 r2]

/-- The meaning of CMPB, Register (R262). -/
def execCmpbReg (r1 : Selector) (r2 : Selector) (s : State) : Result := runCycles (cmpbRegCycles r1 r2) s

/-- CMPB, Absolute, opcode 0x6B, w = 8 (R262; T-ABS-READ, R142). -/
def cmpbAbsCycles (r1 : Selector) (m : AbsOperand) : List Action :=
  [loadRequest false m, loadFinish 8 aluCmp r1]

/-- The meaning of CMPB, Absolute (R262). -/
def execCmpbAbs (r1 : Selector) (m : AbsOperand) (s : State) : Result := runCycles (cmpbAbsCycles r1 m) s

end Sys2Proof.Machine
end

