-- ==== Sys2Proof/Machine/Control.lean ====
section
/-! DEFINITION. The control-transfer instructions (spec 47_control.md R320 to R334). For each opcode-table row: its Execute cycles after its operand bytes are read, and its meaning, those cycles run. -/

namespace Sys2Proof.Machine

/-- JMP, Absolute, opcode 0x8F (R321; T-JUMP, R146). -/
def jmpCycles (m : AbsOperand) : List Action :=
  [jumpCycle condTrue m]

/-- The meaning of JMP, Absolute (R321). -/
def execJmp (m : AbsOperand) (s : State) : Result := runCycles (jmpCycles m) s

/-- JSR, Absolute, opcode 0x93 (R322; T-CALL, R147). -/
def jsrCycles (m : AbsOperand) : List Action :=
  callTemplate m

/-- The meaning of JSR, Absolute (R322). -/
def execJsr (m : AbsOperand) (s : State) : Result := runCycles (jsrCycles m) s

/-- RTS, Implied, opcode 0x94 (R323; T-RET, R149). -/
def rtsCycles : List Action :=
  returnTemplate

/-- The meaning of RTS, Implied (R323). -/
def execRts (s : State) : Result := runCycles rtsCycles s

/-- RTI, Implied, opcode 0x98 (R324; T-RETI, R149). -/
def rtiCycles : List Action :=
  returnFromInterrupt

/-- The meaning of RTI, Implied (R324). -/
def execRti (s : State) : Result := runCycles rtiCycles s

/-- BEQ, Absolute, opcode 0x9F (R325; T-JUMP, R146). -/
def beqCycles (m : AbsOperand) : List Action :=
  [jumpCycle condEq m]

/-- The meaning of BEQ, Absolute (R325). -/
def execBeq (m : AbsOperand) (s : State) : Result := runCycles (beqCycles m) s

/-- BNE, Absolute, opcode 0xA3 (R326; T-JUMP, R146). -/
def bneCycles (m : AbsOperand) : List Action :=
  [jumpCycle condNe m]

/-- The meaning of BNE, Absolute (R326). -/
def execBne (m : AbsOperand) (s : State) : Result := runCycles (bneCycles m) s

/-- BCS, Absolute, opcode 0xA7 (R327; T-JUMP, R146). -/
def bcsCycles (m : AbsOperand) : List Action :=
  [jumpCycle condCs m]

/-- The meaning of BCS, Absolute (R327). -/
def execBcs (m : AbsOperand) (s : State) : Result := runCycles (bcsCycles m) s

/-- BCC, Absolute, opcode 0xAB (R328; T-JUMP, R146). -/
def bccCycles (m : AbsOperand) : List Action :=
  [jumpCycle condCc m]

/-- The meaning of BCC, Absolute (R328). -/
def execBcc (m : AbsOperand) (s : State) : Result := runCycles (bccCycles m) s

/-- BMI, Absolute, opcode 0xAF (R329; T-JUMP, R146). -/
def bmiCycles (m : AbsOperand) : List Action :=
  [jumpCycle condMi m]

/-- The meaning of BMI, Absolute (R329). -/
def execBmi (m : AbsOperand) (s : State) : Result := runCycles (bmiCycles m) s

/-- BPL, Absolute, opcode 0xB3 (R330; T-JUMP, R146). -/
def bplCycles (m : AbsOperand) : List Action :=
  [jumpCycle condPl m]

/-- The meaning of BPL, Absolute (R330). -/
def execBpl (m : AbsOperand) (s : State) : Result := runCycles (bplCycles m) s

/-- BVS, Absolute, opcode 0xB7 (R331; T-JUMP, R146). -/
def bvsCycles (m : AbsOperand) : List Action :=
  [jumpCycle condVs m]

/-- The meaning of BVS, Absolute (R331). -/
def execBvs (m : AbsOperand) (s : State) : Result := runCycles (bvsCycles m) s

/-- BVC, Absolute, opcode 0xBB (R332; T-JUMP, R146). -/
def bvcCycles (m : AbsOperand) : List Action :=
  [jumpCycle condVc m]

/-- The meaning of BVC, Absolute (R332). -/
def execBvc (m : AbsOperand) (s : State) : Result := runCycles (bvcCycles m) s

/-- BLT, Absolute, opcode 0xBF (R333; T-JUMP, R146). -/
def bltCycles (m : AbsOperand) : List Action :=
  [jumpCycle condLt m]

/-- The meaning of BLT, Absolute (R333). -/
def execBlt (m : AbsOperand) (s : State) : Result := runCycles (bltCycles m) s

/-- BGT, Absolute, opcode 0xC3 (R334; T-JUMP, R146). -/
def bgtCycles (m : AbsOperand) : List Action :=
  [jumpCycle condGt m]

/-- The meaning of BGT, Absolute (R334). -/
def execBgt (m : AbsOperand) (s : State) : Result := runCycles (bgtCycles m) s

end Sys2Proof.Machine
end

