-- ==== Sys2Proof/Machine/FlagControl.lean ====
section
/-! DEFINITION. The flag-control instructions (spec 48_flag_control.md R340 to R345). For each opcode-table row: its Execute cycles after its operand bytes are read, and its meaning, those cycles run. -/

namespace Sys2Proof.Machine

/-- SEC, Implied, opcode 0xC4 (R341; T-IMP, R145). -/
def secCycles : List Action :=
  [impliedCycle (fun s => { s with flags := { s.flags with c := true } })]

/-- The meaning of SEC, Implied (R341). -/
def execSec (s : State) : Result := runCycles secCycles s

/-- CLC, Implied, opcode 0xC8 (R342; T-IMP, R145). -/
def clcCycles : List Action :=
  [impliedCycle (fun s => { s with flags := { s.flags with c := false } })]

/-- The meaning of CLC, Implied (R342). -/
def execClc (s : State) : Result := runCycles clcCycles s

/-- SEI, Implied, opcode 0xCC (R343; T-IMP, R145). -/
def seiCycles : List Action :=
  [impliedCycle (fun s => { s with flags := { s.flags with i := true } })]

/-- The meaning of SEI, Implied (R343). -/
def execSei (s : State) : Result := runCycles seiCycles s

/-- CLI, Implied, opcode 0xD0 (R344; T-IMP, R145). -/
def cliCycles : List Action :=
  [impliedCycle (fun s => { s with flags := { s.flags with i := false } })]

/-- The meaning of CLI, Implied (R344). -/
def execCli (s : State) : Result := runCycles cliCycles s

/-- CLV, Implied, opcode 0xD4 (R345; T-IMP, R145). -/
def clvCycles : List Action :=
  [impliedCycle (fun s => { s with flags := { s.flags with v := false } })]

/-- The meaning of CLV, Implied (R345). -/
def execClv (s : State) : Result := runCycles clvCycles s

end Sys2Proof.Machine
end

