-- ==== Sys2Proof/Machine/IoSystem.lean ====
section
/-! DEFINITION. The IO and system instructions (spec 49_io_system.md R360 to R364). For each opcode-table row: its Execute cycles after its operand bytes are read, and its meaning, those cycles run. -/

namespace Sys2Proof.Machine

/-- IN, Immediate, opcode 0xD9, w = 8 (R361; T-IO-IMM, R148). -/
def inImmCycles (r1 : Selector) (port : Byte) : List Action :=
  [inRequest port, inFinish r1]

/-- The meaning of IN, Immediate (R361). -/
def execInImm (r1 : Selector) (port : Byte) (s : State) : Result := runCycles (inImmCycles r1 port) s

/-- IN, Register, opcode 0xDA, w = 8 (R361; T-IO-REG, R148). -/
def inRegCycles (r1 : Selector) (r2 : Selector) : List Action :=
  [fun s => inRequest (portOf s r2) s, inFinish r1]

/-- The meaning of IN, Register (R361). -/
def execInReg (r1 : Selector) (r2 : Selector) (s : State) : Result := runCycles (inRegCycles r1 r2) s

/-- OUT, Immediate, opcode 0xDD, w = 8 (R362; T-IO-IMM, R148). -/
def outImmCycles (r1 : Selector) (port : Byte) : List Action :=
  [outRequest r1 port, finish]

/-- The meaning of OUT, Immediate (R362). -/
def execOutImm (r1 : Selector) (port : Byte) (s : State) : Result := runCycles (outImmCycles r1 port) s

/-- OUT, Register, opcode 0xDE, w = 8 (R362; T-IO-REG, R148). -/
def outRegCycles (r1 : Selector) (r2 : Selector) : List Action :=
  [fun s => outRequest r1 (portOf s r2) s, finish]

/-- The meaning of OUT, Register (R362). -/
def execOutReg (r1 : Selector) (r2 : Selector) (s : State) : Result := runCycles (outRegCycles r1 r2) s

/-- NOP, Implied, opcode 0xE0 (R363; T-IMP, R145). -/
def nopCycles : List Action :=
  [impliedCycle (fun s => s)]

/-- The meaning of NOP, Implied (R363). -/
def execNop (s : State) : Result := runCycles nopCycles s

/-- HLT, Implied, opcode 0xE4 (R364; T-IMP, R145). -/
def hltCycles : List Action :=
  [impliedCycle (fun s => { s with phase := .halt })]

/-- The meaning of HLT, Implied (R364). -/
def execHlt (s : State) : Result := runCycles hltCycles s

end Sys2Proof.Machine
end

