-- ==== Sys2Proof/Machine/Logic.lean ====
section
/-! DEFINITION. The logic instructions (spec 42_logic.md R220 to R228). For each opcode-table row: its Execute cycles after its operand bytes are read, and its meaning, those cycles run. -/

namespace Sys2Proof.Machine

/-- AND, Immediate, opcode 0x25, w = 16 (R221; T-IMM, R141). -/
def andImmCycles (r1 : Selector) (imm : Word) : List Action :=
  [aluFinish 16 aluAnd r1 imm]

/-- The meaning of AND, Immediate (R221). -/
def execAndImm (r1 : Selector) (imm : Word) (s : State) : Result := runCycles (andImmCycles r1 imm) s

/-- AND, Register, opcode 0x26, w = 16 (R221; T-REG, R144). -/
def andRegCycles (r1 : Selector) (r2 : Selector) : List Action :=
  [regCycle 16 aluAnd r1 r2]

/-- The meaning of AND, Register (R221). -/
def execAndReg (r1 : Selector) (r2 : Selector) (s : State) : Result := runCycles (andRegCycles r1 r2) s

/-- AND, Absolute, opcode 0x27, w = 16 (R221; T-ABS-READ, R142). -/
def andAbsCycles (r1 : Selector) (m : AbsOperand) : List Action :=
  [loadRequest true m, loadFinish 16 aluAnd r1]

/-- The meaning of AND, Absolute (R221). -/
def execAndAbs (r1 : Selector) (m : AbsOperand) (s : State) : Result := runCycles (andAbsCycles r1 m) s

/-- ANDB, Immediate, opcode 0x29, w = 8 (R222; T-IMM, R141). -/
def andbImmCycles (r1 : Selector) (imm : Byte) : List Action :=
  [aluFinish 8 aluAnd r1 imm]

/-- The meaning of ANDB, Immediate (R222). -/
def execAndbImm (r1 : Selector) (imm : Byte) (s : State) : Result := runCycles (andbImmCycles r1 imm) s

/-- ANDB, Register, opcode 0x2A, w = 8 (R222; T-REG, R144). -/
def andbRegCycles (r1 : Selector) (r2 : Selector) : List Action :=
  [regCycle 8 aluAnd r1 r2]

/-- The meaning of ANDB, Register (R222). -/
def execAndbReg (r1 : Selector) (r2 : Selector) (s : State) : Result := runCycles (andbRegCycles r1 r2) s

/-- ANDB, Absolute, opcode 0x2B, w = 8 (R222; T-ABS-READ, R142). -/
def andbAbsCycles (r1 : Selector) (m : AbsOperand) : List Action :=
  [loadRequest false m, loadFinish 8 aluAnd r1]

/-- The meaning of ANDB, Absolute (R222). -/
def execAndbAbs (r1 : Selector) (m : AbsOperand) (s : State) : Result := runCycles (andbAbsCycles r1 m) s

/-- OR, Immediate, opcode 0x2D, w = 16 (R223; T-IMM, R141). -/
def orImmCycles (r1 : Selector) (imm : Word) : List Action :=
  [aluFinish 16 aluOr r1 imm]

/-- The meaning of OR, Immediate (R223). -/
def execOrImm (r1 : Selector) (imm : Word) (s : State) : Result := runCycles (orImmCycles r1 imm) s

/-- OR, Register, opcode 0x2E, w = 16 (R223; T-REG, R144). -/
def orRegCycles (r1 : Selector) (r2 : Selector) : List Action :=
  [regCycle 16 aluOr r1 r2]

/-- The meaning of OR, Register (R223). -/
def execOrReg (r1 : Selector) (r2 : Selector) (s : State) : Result := runCycles (orRegCycles r1 r2) s

/-- OR, Absolute, opcode 0x2F, w = 16 (R223; T-ABS-READ, R142). -/
def orAbsCycles (r1 : Selector) (m : AbsOperand) : List Action :=
  [loadRequest true m, loadFinish 16 aluOr r1]

/-- The meaning of OR, Absolute (R223). -/
def execOrAbs (r1 : Selector) (m : AbsOperand) (s : State) : Result := runCycles (orAbsCycles r1 m) s

/-- ORB, Immediate, opcode 0x31, w = 8 (R224; T-IMM, R141). -/
def orbImmCycles (r1 : Selector) (imm : Byte) : List Action :=
  [aluFinish 8 aluOr r1 imm]

/-- The meaning of ORB, Immediate (R224). -/
def execOrbImm (r1 : Selector) (imm : Byte) (s : State) : Result := runCycles (orbImmCycles r1 imm) s

/-- ORB, Register, opcode 0x32, w = 8 (R224; T-REG, R144). -/
def orbRegCycles (r1 : Selector) (r2 : Selector) : List Action :=
  [regCycle 8 aluOr r1 r2]

/-- The meaning of ORB, Register (R224). -/
def execOrbReg (r1 : Selector) (r2 : Selector) (s : State) : Result := runCycles (orbRegCycles r1 r2) s

/-- ORB, Absolute, opcode 0x33, w = 8 (R224; T-ABS-READ, R142). -/
def orbAbsCycles (r1 : Selector) (m : AbsOperand) : List Action :=
  [loadRequest false m, loadFinish 8 aluOr r1]

/-- The meaning of ORB, Absolute (R224). -/
def execOrbAbs (r1 : Selector) (m : AbsOperand) (s : State) : Result := runCycles (orbAbsCycles r1 m) s

/-- XOR, Immediate, opcode 0x35, w = 16 (R225; T-IMM, R141). -/
def xorImmCycles (r1 : Selector) (imm : Word) : List Action :=
  [aluFinish 16 aluXor r1 imm]

/-- The meaning of XOR, Immediate (R225). -/
def execXorImm (r1 : Selector) (imm : Word) (s : State) : Result := runCycles (xorImmCycles r1 imm) s

/-- XOR, Register, opcode 0x36, w = 16 (R225; T-REG, R144). -/
def xorRegCycles (r1 : Selector) (r2 : Selector) : List Action :=
  [regCycle 16 aluXor r1 r2]

/-- The meaning of XOR, Register (R225). -/
def execXorReg (r1 : Selector) (r2 : Selector) (s : State) : Result := runCycles (xorRegCycles r1 r2) s

/-- XOR, Absolute, opcode 0x37, w = 16 (R225; T-ABS-READ, R142). -/
def xorAbsCycles (r1 : Selector) (m : AbsOperand) : List Action :=
  [loadRequest true m, loadFinish 16 aluXor r1]

/-- The meaning of XOR, Absolute (R225). -/
def execXorAbs (r1 : Selector) (m : AbsOperand) (s : State) : Result := runCycles (xorAbsCycles r1 m) s

/-- XORB, Immediate, opcode 0x39, w = 8 (R226; T-IMM, R141). -/
def xorbImmCycles (r1 : Selector) (imm : Byte) : List Action :=
  [aluFinish 8 aluXor r1 imm]

/-- The meaning of XORB, Immediate (R226). -/
def execXorbImm (r1 : Selector) (imm : Byte) (s : State) : Result := runCycles (xorbImmCycles r1 imm) s

/-- XORB, Register, opcode 0x3A, w = 8 (R226; T-REG, R144). -/
def xorbRegCycles (r1 : Selector) (r2 : Selector) : List Action :=
  [regCycle 8 aluXor r1 r2]

/-- The meaning of XORB, Register (R226). -/
def execXorbReg (r1 : Selector) (r2 : Selector) (s : State) : Result := runCycles (xorbRegCycles r1 r2) s

/-- XORB, Absolute, opcode 0x3B, w = 8 (R226; T-ABS-READ, R142). -/
def xorbAbsCycles (r1 : Selector) (m : AbsOperand) : List Action :=
  [loadRequest false m, loadFinish 8 aluXor r1]

/-- The meaning of XORB, Absolute (R226). -/
def execXorbAbs (r1 : Selector) (m : AbsOperand) (s : State) : Result := runCycles (xorbAbsCycles r1 m) s

/-- NOT, Register, opcode 0x3E, w = 16 (R227; T-REG, R144). -/
def notCycles (r1 : Selector) : List Action :=
  [regCycle1 16 aluNot r1]

/-- The meaning of NOT, Register (R227). -/
def execNot (r1 : Selector) (s : State) : Result := runCycles (notCycles r1) s

/-- NOTB, Register, opcode 0x42, w = 8 (R228; T-REG, R144). -/
def notbCycles (r1 : Selector) : List Action :=
  [regCycle1 8 aluNot r1]

/-- The meaning of NOTB, Register (R228). -/
def execNotb (r1 : Selector) (s : State) : Result := runCycles (notbCycles r1) s

end Sys2Proof.Machine
end

