-- ==== Sys2Proof/Machine/Move.lean ====
section
/-! DEFINITION. The move, load and store instructions (spec 45_move.md R280 to R284). For each opcode-table row: its Execute cycles after its operand bytes are read, and its meaning, those cycles run. -/

namespace Sys2Proof.Machine

/-- MOV, Immediate, opcode 0x6D, w = 16 (R281; T-IMM, R141). -/
def movImmCycles (r1 : Selector) (imm : Word) : List Action :=
  [aluFinish 16 aluMov r1 imm]

/-- The meaning of MOV, Immediate (R281). -/
def execMovImm (r1 : Selector) (imm : Word) (s : State) : Result := runCycles (movImmCycles r1 imm) s

/-- MOV, Register, opcode 0x6E, w = 16 (R281; T-REG, R144). -/
def movRegCycles (r1 : Selector) (r2 : Selector) : List Action :=
  [regCycle 16 aluMov r1 r2]

/-- The meaning of MOV, Register (R281). -/
def execMovReg (r1 : Selector) (r2 : Selector) (s : State) : Result := runCycles (movRegCycles r1 r2) s

/-- MOV, Absolute, opcode 0x6F, w = 16 (R281; T-ABS-READ, R142). -/
def movAbsCycles (r1 : Selector) (m : AbsOperand) : List Action :=
  [loadRequest true m, loadFinish 16 aluMov r1]

/-- The meaning of MOV, Absolute (R281). -/
def execMovAbs (r1 : Selector) (m : AbsOperand) (s : State) : Result := runCycles (movAbsCycles r1 m) s

/-- MOVB, Immediate, opcode 0x71, w = 8 (R282; T-IMM, R141). -/
def movbImmCycles (r1 : Selector) (imm : Byte) : List Action :=
  [aluFinish 8 aluMov r1 imm]

/-- The meaning of MOVB, Immediate (R282). -/
def execMovbImm (r1 : Selector) (imm : Byte) (s : State) : Result := runCycles (movbImmCycles r1 imm) s

/-- MOVB, Register, opcode 0x72, w = 8 (R282; T-REG, R144). -/
def movbRegCycles (r1 : Selector) (r2 : Selector) : List Action :=
  [regCycle 8 aluMov r1 r2]

/-- The meaning of MOVB, Register (R282). -/
def execMovbReg (r1 : Selector) (r2 : Selector) (s : State) : Result := runCycles (movbRegCycles r1 r2) s

/-- MOVB, Absolute, opcode 0x73, w = 8 (R282; T-ABS-READ, R142). -/
def movbAbsCycles (r1 : Selector) (m : AbsOperand) : List Action :=
  [loadRequest false m, loadFinish 8 aluMov r1]

/-- The meaning of MOVB, Absolute (R282). -/
def execMovbAbs (r1 : Selector) (m : AbsOperand) (s : State) : Result := runCycles (movbAbsCycles r1 m) s

/-- STR, Absolute, opcode 0x77, w = 16 (R283; T-ABS-STORE, R143). -/
def strCycles (r1 : Selector) (m : AbsOperand) : List Action :=
  [storeRequest true r1 m, finish]

/-- The meaning of STR, Absolute (R283). -/
def execStr (r1 : Selector) (m : AbsOperand) (s : State) : Result := runCycles (strCycles r1 m) s

/-- STRB, Absolute, opcode 0x7B, w = 8 (R284; T-ABS-STORE, R143). -/
def strbCycles (r1 : Selector) (m : AbsOperand) : List Action :=
  [storeRequest false r1 m, finish]

/-- The meaning of STRB, Absolute (R284). -/
def execStrb (r1 : Selector) (m : AbsOperand) (s : State) : Result := runCycles (strbCycles r1 m) s

end Sys2Proof.Machine
end

