-- ==== Sys2Proof/Machine/Shift.lean ====
section
/-! DEFINITION. The shift and rotate instructions (spec 43_shift_rotate.md R240 to R248). For each opcode-table row: its Execute cycles after its operand bytes are read, and its meaning, those cycles run. -/

namespace Sys2Proof.Machine

/-- SHL, Register, opcode 0x46, w = 16 (R241; T-REG, R144). -/
def shlCycles (r1 : Selector) : List Action :=
  [regCycle1 16 aluShl r1]

/-- The meaning of SHL, Register (R241). -/
def execShl (r1 : Selector) (s : State) : Result := runCycles (shlCycles r1) s

/-- SHLB, Register, opcode 0x4A, w = 8 (R242; T-REG, R144). -/
def shlbCycles (r1 : Selector) : List Action :=
  [regCycle1 8 aluShl r1]

/-- The meaning of SHLB, Register (R242). -/
def execShlb (r1 : Selector) (s : State) : Result := runCycles (shlbCycles r1) s

/-- SHR, Register, opcode 0x4E, w = 16 (R243; T-REG, R144). -/
def shrCycles (r1 : Selector) : List Action :=
  [regCycle1 16 aluShr r1]

/-- The meaning of SHR, Register (R243). -/
def execShr (r1 : Selector) (s : State) : Result := runCycles (shrCycles r1) s

/-- SHRB, Register, opcode 0x52, w = 8 (R244; T-REG, R144). -/
def shrbCycles (r1 : Selector) : List Action :=
  [regCycle1 8 aluShr r1]

/-- The meaning of SHRB, Register (R244). -/
def execShrb (r1 : Selector) (s : State) : Result := runCycles (shrbCycles r1) s

/-- ROL, Register, opcode 0x56, w = 16 (R245; T-REG, R144). -/
def rolCycles (r1 : Selector) : List Action :=
  [regCycle1 16 aluRol r1]

/-- The meaning of ROL, Register (R245). -/
def execRol (r1 : Selector) (s : State) : Result := runCycles (rolCycles r1) s

/-- ROLB, Register, opcode 0x5A, w = 8 (R246; T-REG, R144). -/
def rolbCycles (r1 : Selector) : List Action :=
  [regCycle1 8 aluRol r1]

/-- The meaning of ROLB, Register (R246). -/
def execRolb (r1 : Selector) (s : State) : Result := runCycles (rolbCycles r1) s

/-- ROR, Register, opcode 0x5E, w = 16 (R247; T-REG, R144). -/
def rorCycles (r1 : Selector) : List Action :=
  [regCycle1 16 aluRor r1]

/-- The meaning of ROR, Register (R247). -/
def execRor (r1 : Selector) (s : State) : Result := runCycles (rorCycles r1) s

/-- RORB, Register, opcode 0x62, w = 8 (R248; T-REG, R144). -/
def rorbCycles (r1 : Selector) : List Action :=
  [regCycle1 8 aluRor r1]

/-- The meaning of RORB, Register (R248). -/
def execRorb (r1 : Selector) (s : State) : Result := runCycles (rorbCycles r1) s

end Sys2Proof.Machine
end

