-- ==== Sys2Proof/Machine/Stack.lean ====
section
/-! DEFINITION. The stack instructions (spec 46_stack.md R300 to R304). For each opcode-table row: its Execute cycles after its operand bytes are read, and its meaning, those cycles run. -/

namespace Sys2Proof.Machine

/-- PUSH, Register, opcode 0x7E, w = 16 (R301; T-PUSH, R149). -/
def pushCycles (r1 : Selector) : List Action :=
  pushTemplate true r1

/-- The meaning of PUSH, Register (R301). -/
def execPush (r1 : Selector) (s : State) : Result := runCycles (pushCycles r1) s

/-- PUSHB, Register, opcode 0x82, w = 8 (R302; T-PUSH, R149). -/
def pushbCycles (r1 : Selector) : List Action :=
  pushTemplate false r1

/-- The meaning of PUSHB, Register (R302). -/
def execPushb (r1 : Selector) (s : State) : Result := runCycles (pushbCycles r1) s

/-- POP, Register, opcode 0x86, w = 16 (R303; T-POP, R149). -/
def popCycles (r1 : Selector) : List Action :=
  popTemplate true r1

/-- The meaning of POP, Register (R303). -/
def execPop (r1 : Selector) (s : State) : Result := runCycles (popCycles r1) s

/-- POPB, Register, opcode 0x8A, w = 8 (R304; T-POP, R149). -/
def popbCycles (r1 : Selector) : List Action :=
  popTemplate false r1

/-- The meaning of POPB, Register (R304). -/
def execPopb (r1 : Selector) (s : State) : Result := runCycles (popbCycles r1) s

end Sys2Proof.Machine
end

