-- ==== Sys2Proof/Machine/Dispatch.lean ====
section
/-! DEFINITION. The dispatch: one arm per constructor of Instr, one direct call of its meaning (spec 30_encoding.md R97, 40_engine.md R125). -/

namespace Sys2Proof.Machine

def exec (i : Instr) (s : State) : Host.Outcome State Fault Refusal :=
  match i with
  | .addImm r1 imm => Sys2Proof.Machine.execAddImm r1 imm s
  | .addReg r1 r2 => Sys2Proof.Machine.execAddReg r1 r2 s
  | .addAbs r1 m => Sys2Proof.Machine.execAddAbs r1 m s
  | .addbImm r1 imm => Sys2Proof.Machine.execAddbImm r1 imm s
  | .addbReg r1 r2 => Sys2Proof.Machine.execAddbReg r1 r2 s
  | .addbAbs r1 m => Sys2Proof.Machine.execAddbAbs r1 m s
  | .subImm r1 imm => Sys2Proof.Machine.execSubImm r1 imm s
  | .subReg r1 r2 => Sys2Proof.Machine.execSubReg r1 r2 s
  | .subAbs r1 m => Sys2Proof.Machine.execSubAbs r1 m s
  | .subbImm r1 imm => Sys2Proof.Machine.execSubbImm r1 imm s
  | .subbReg r1 r2 => Sys2Proof.Machine.execSubbReg r1 r2 s
  | .subbAbs r1 m => Sys2Proof.Machine.execSubbAbs r1 m s
  | .inc r1 => Sys2Proof.Machine.execInc r1 s
  | .incb r1 => Sys2Proof.Machine.execIncb r1 s
  | .dec r1 => Sys2Proof.Machine.execDec r1 s
  | .decb r1 => Sys2Proof.Machine.execDecb r1 s
  | .andImm r1 imm => Sys2Proof.Machine.execAndImm r1 imm s
  | .andReg r1 r2 => Sys2Proof.Machine.execAndReg r1 r2 s
  | .andAbs r1 m => Sys2Proof.Machine.execAndAbs r1 m s
  | .andbImm r1 imm => Sys2Proof.Machine.execAndbImm r1 imm s
  | .andbReg r1 r2 => Sys2Proof.Machine.execAndbReg r1 r2 s
  | .andbAbs r1 m => Sys2Proof.Machine.execAndbAbs r1 m s
  | .orImm r1 imm => Sys2Proof.Machine.execOrImm r1 imm s
  | .orReg r1 r2 => Sys2Proof.Machine.execOrReg r1 r2 s
  | .orAbs r1 m => Sys2Proof.Machine.execOrAbs r1 m s
  | .orbImm r1 imm => Sys2Proof.Machine.execOrbImm r1 imm s
  | .orbReg r1 r2 => Sys2Proof.Machine.execOrbReg r1 r2 s
  | .orbAbs r1 m => Sys2Proof.Machine.execOrbAbs r1 m s
  | .xorImm r1 imm => Sys2Proof.Machine.execXorImm r1 imm s
  | .xorReg r1 r2 => Sys2Proof.Machine.execXorReg r1 r2 s
  | .xorAbs r1 m => Sys2Proof.Machine.execXorAbs r1 m s
  | .xorbImm r1 imm => Sys2Proof.Machine.execXorbImm r1 imm s
  | .xorbReg r1 r2 => Sys2Proof.Machine.execXorbReg r1 r2 s
  | .xorbAbs r1 m => Sys2Proof.Machine.execXorbAbs r1 m s
  | .not r1 => Sys2Proof.Machine.execNot r1 s
  | .notb r1 => Sys2Proof.Machine.execNotb r1 s
  | .shl r1 => Sys2Proof.Machine.execShl r1 s
  | .shlb r1 => Sys2Proof.Machine.execShlb r1 s
  | .shr r1 => Sys2Proof.Machine.execShr r1 s
  | .shrb r1 => Sys2Proof.Machine.execShrb r1 s
  | .rol r1 => Sys2Proof.Machine.execRol r1 s
  | .rolb r1 => Sys2Proof.Machine.execRolb r1 s
  | .ror r1 => Sys2Proof.Machine.execRor r1 s
  | .rorb r1 => Sys2Proof.Machine.execRorb r1 s
  | .cmpImm r1 imm => Sys2Proof.Machine.execCmpImm r1 imm s
  | .cmpReg r1 r2 => Sys2Proof.Machine.execCmpReg r1 r2 s
  | .cmpAbs r1 m => Sys2Proof.Machine.execCmpAbs r1 m s
  | .cmpbImm r1 imm => Sys2Proof.Machine.execCmpbImm r1 imm s
  | .cmpbReg r1 r2 => Sys2Proof.Machine.execCmpbReg r1 r2 s
  | .cmpbAbs r1 m => Sys2Proof.Machine.execCmpbAbs r1 m s
  | .movImm r1 imm => Sys2Proof.Machine.execMovImm r1 imm s
  | .movReg r1 r2 => Sys2Proof.Machine.execMovReg r1 r2 s
  | .movAbs r1 m => Sys2Proof.Machine.execMovAbs r1 m s
  | .movbImm r1 imm => Sys2Proof.Machine.execMovbImm r1 imm s
  | .movbReg r1 r2 => Sys2Proof.Machine.execMovbReg r1 r2 s
  | .movbAbs r1 m => Sys2Proof.Machine.execMovbAbs r1 m s
  | .str r1 m => Sys2Proof.Machine.execStr r1 m s
  | .strb r1 m => Sys2Proof.Machine.execStrb r1 m s
  | .push r1 => Sys2Proof.Machine.execPush r1 s
  | .pushb r1 => Sys2Proof.Machine.execPushb r1 s
  | .pop r1 => Sys2Proof.Machine.execPop r1 s
  | .popb r1 => Sys2Proof.Machine.execPopb r1 s
  | .jmp m => Sys2Proof.Machine.execJmp m s
  | .jsr m => Sys2Proof.Machine.execJsr m s
  | .rts => Sys2Proof.Machine.execRts s
  | .rti => Sys2Proof.Machine.execRti s
  | .beq m => Sys2Proof.Machine.execBeq m s
  | .bne m => Sys2Proof.Machine.execBne m s
  | .bcs m => Sys2Proof.Machine.execBcs m s
  | .bcc m => Sys2Proof.Machine.execBcc m s
  | .bmi m => Sys2Proof.Machine.execBmi m s
  | .bpl m => Sys2Proof.Machine.execBpl m s
  | .bvs m => Sys2Proof.Machine.execBvs m s
  | .bvc m => Sys2Proof.Machine.execBvc m s
  | .blt m => Sys2Proof.Machine.execBlt m s
  | .bgt m => Sys2Proof.Machine.execBgt m s
  | .sec => Sys2Proof.Machine.execSec s
  | .clc => Sys2Proof.Machine.execClc s
  | .sei => Sys2Proof.Machine.execSei s
  | .cli => Sys2Proof.Machine.execCli s
  | .clv => Sys2Proof.Machine.execClv s
  | .inImm r1 port => Sys2Proof.Machine.execInImm r1 port s
  | .inReg r1 r2 => Sys2Proof.Machine.execInReg r1 r2 s
  | .outImm r1 port => Sys2Proof.Machine.execOutImm r1 port s
  | .outReg r1 r2 => Sys2Proof.Machine.execOutReg r1 r2 s
  | .nop => Sys2Proof.Machine.execNop s
  | .hlt => Sys2Proof.Machine.execHlt s

end Sys2Proof.Machine
end

