-- ==== Sys2Proof/Machine/Schedule.lean ====
section
/-! DEFINITION. The Execute cycles of every instruction, for the engine that is stepped one cycle at a time (spec 40_engine.md R125, R140). -/

namespace Sys2Proof.Machine

/-- The Execute cycles of an instruction that follow the reading of its operand bytes (R140). -/
def schedule (i : Instr) : List Action :=
  match i with
  | .addImm r1 imm => addImmCycles r1 imm
  | .addReg r1 r2 => addRegCycles r1 r2
  | .addAbs r1 m => addAbsCycles r1 m
  | .addbImm r1 imm => addbImmCycles r1 imm
  | .addbReg r1 r2 => addbRegCycles r1 r2
  | .addbAbs r1 m => addbAbsCycles r1 m
  | .subImm r1 imm => subImmCycles r1 imm
  | .subReg r1 r2 => subRegCycles r1 r2
  | .subAbs r1 m => subAbsCycles r1 m
  | .subbImm r1 imm => subbImmCycles r1 imm
  | .subbReg r1 r2 => subbRegCycles r1 r2
  | .subbAbs r1 m => subbAbsCycles r1 m
  | .inc r1 => incCycles r1
  | .incb r1 => incbCycles r1
  | .dec r1 => decCycles r1
  | .decb r1 => decbCycles r1
  | .andImm r1 imm => andImmCycles r1 imm
  | .andReg r1 r2 => andRegCycles r1 r2
  | .andAbs r1 m => andAbsCycles r1 m
  | .andbImm r1 imm => andbImmCycles r1 imm
  | .andbReg r1 r2 => andbRegCycles r1 r2
  | .andbAbs r1 m => andbAbsCycles r1 m
  | .orImm r1 imm => orImmCycles r1 imm
  | .orReg r1 r2 => orRegCycles r1 r2
  | .orAbs r1 m => orAbsCycles r1 m
  | .orbImm r1 imm => orbImmCycles r1 imm
  | .orbReg r1 r2 => orbRegCycles r1 r2
  | .orbAbs r1 m => orbAbsCycles r1 m
  | .xorImm r1 imm => xorImmCycles r1 imm
  | .xorReg r1 r2 => xorRegCycles r1 r2
  | .xorAbs r1 m => xorAbsCycles r1 m
  | .xorbImm r1 imm => xorbImmCycles r1 imm
  | .xorbReg r1 r2 => xorbRegCycles r1 r2
  | .xorbAbs r1 m => xorbAbsCycles r1 m
  | .not r1 => notCycles r1
  | .notb r1 => notbCycles r1
  | .shl r1 => shlCycles r1
  | .shlb r1 => shlbCycles r1
  | .shr r1 => shrCycles r1
  | .shrb r1 => shrbCycles r1
  | .rol r1 => rolCycles r1
  | .rolb r1 => rolbCycles r1
  | .ror r1 => rorCycles r1
  | .rorb r1 => rorbCycles r1
  | .cmpImm r1 imm => cmpImmCycles r1 imm
  | .cmpReg r1 r2 => cmpRegCycles r1 r2
  | .cmpAbs r1 m => cmpAbsCycles r1 m
  | .cmpbImm r1 imm => cmpbImmCycles r1 imm
  | .cmpbReg r1 r2 => cmpbRegCycles r1 r2
  | .cmpbAbs r1 m => cmpbAbsCycles r1 m
  | .movImm r1 imm => movImmCycles r1 imm
  | .movReg r1 r2 => movRegCycles r1 r2
  | .movAbs r1 m => movAbsCycles r1 m
  | .movbImm r1 imm => movbImmCycles r1 imm
  | .movbReg r1 r2 => movbRegCycles r1 r2
  | .movbAbs r1 m => movbAbsCycles r1 m
  | .str r1 m => strCycles r1 m
  | .strb r1 m => strbCycles r1 m
  | .push r1 => pushCycles r1
  | .pushb r1 => pushbCycles r1
  | .pop r1 => popCycles r1
  | .popb r1 => popbCycles r1
  | .jmp m => jmpCycles m
  | .jsr m => jsrCycles m
  | .rts => rtsCycles
  | .rti => rtiCycles
  | .beq m => beqCycles m
  | .bne m => bneCycles m
  | .bcs m => bcsCycles m
  | .bcc m => bccCycles m
  | .bmi m => bmiCycles m
  | .bpl m => bplCycles m
  | .bvs m => bvsCycles m
  | .bvc m => bvcCycles m
  | .blt m => bltCycles m
  | .bgt m => bgtCycles m
  | .sec => secCycles
  | .clc => clcCycles
  | .sei => seiCycles
  | .cli => cliCycles
  | .clv => clvCycles
  | .inImm r1 port => inImmCycles r1 port
  | .inReg r1 r2 => inRegCycles r1 r2
  | .outImm r1 port => outImmCycles r1 port
  | .outReg r1 r2 => outRegCycles r1 r2
  | .nop => nopCycles
  | .hlt => hltCycles

end Sys2Proof.Machine
end

