-- ==== Sys2Proof/Machine/Engine.lean ====
section
/-! DEFINITION. The engine: an instruction from its fetch to its finish (spec 40_engine.md R124 to R126), one cycle of any state (R120, R127), the next sequence of the machine, and the placing of an instruction for the fetch. -/

namespace Sys2Proof.Machine

/-! ## Dispatch of the opcode (R125) -/

/-- The fault that Execute cycle 1 raises when the opcode does not decode (R104, R125, R432): an absent opcode is
CONFIG_UNKNOWN_OPCODE at pc - 3; a malformed entry is CONFIG_TABLE (R101, log entry 7). -/
def dispatchFault (e : DecodeError) (s : State) : FaultReg :=
  match e with
  | .unknownOpcode op => .configUnknownOpcode op (s.pc - 3)
  | .badEntry op => .configTable op
  | .truncated => .configTable s.irOp

/-- The cycle that raises it; it requests nothing (R432, R433). -/
def dispatchFaultCycle (e : DecodeError) : Action := fun s => raise (dispatchFault e s) s

/-- The operand bytes as the engine has latched them once its operand cycles have run: the literal on the data lane
(R141), or the bank byte in scr and the segment word on the data lane (R133). -/
def latchedOperand (mn : Mnemonic) (mode : Mode) (s : State) : List Byte :=
  match mode with
  | .implied => []
  | .register => []
  | .immediate => if mn.isByte then [loByte s.data] else [hiByte s.data, loByte s.data]
  | .absolute => [bankOf s.scr, hiByte s.data, loByte s.data]

/-- The bytes of the instruction in the instruction register and its latched operand (R90). -/
def latchedBytes (mn : Mnemonic) (mode : Mode) (s : State) : List Byte :=
  s.irOp :: hiByte s.irMeta :: loByte s.irMeta :: latchedOperand mn mode s

/-- The instruction the engine has latched (R103). -/
def latchedInstr (mn : Mnemonic) (mode : Mode) (s : State) : Except DecodeError Instr :=
  match decode s.cfg (latchedBytes mn mode s) with
  | .ok (i, _) => .ok i
  | .error e => .error e

/-! ## A whole instruction -/

/-- The Execute cycles of the instruction whose operand bytes are latched (R125). -/
def executeLatched (mn : Mnemonic) (mode : Mode) (s : State) : Result :=
  match latchedInstr mn mode s with
  | .ok i => exec i s
  | .error e => tick (dispatchFaultCycle e) s

/-- Execute, from its cycle 1: the table lookup, the operand cycles, the instruction (R125). -/
def executeFetched (s : State) : Result :=
  match entryOf s.cfg.opcodeTable s.irOp with
  | .error e => tick (dispatchFaultCycle e) s
  | .ok (mn, mode) => andThen (runCycles (operandCycles mn mode) s) (executeLatched mn mode)

/-- An instruction from Fetch cycle 1 to its finish (R124, R125, R126). -/
def runInstruction (s : State) : Result := andThen (runCycles fetchCycles s) executeFetched

/-! ## One cycle of any state (R120) -/

/-- The cycle that a sequence runs at the present counter; outside 1..n it is SEQ_RANGE (R127). -/
def tickAt (acts : List Action) (s : State) : Result :=
  let outside : Action := fun t => raise (.seqRange s.phase s.cyc) t
  match s.cyc with
  | 0 => tick outside s
  | c + 1 =>
    match acts[c]? with
    | some act => tick act s
    | none => tick outside s

/-- One Execute cycle (R125): the operand cycles of the mode, then the cycles of the latched instruction. The operand
bytes are on the lanes when the first cycle after the operand cycles runs, and no later cycle uses them (R141 to R149). -/
def executeCycle (s : State) : Result :=
  match entryOf s.cfg.opcodeTable s.irOp with
  | .error e => tick (dispatchFaultCycle e) s
  | .ok (mn, mode) =>
    match latchedInstr mn mode s with
    | .ok i => tickAt (operandCycles mn mode ++ schedule i) s
    | .error e => tick (dispatchFaultCycle e) s

/-- One system step of the spec: the environment, `cycle()`, and the resolution of its transactions (R120, R431). -/
def cycle (s : State) : Result :=
  match s.phase with
  | .reset => tickAt resetCycles s
  | .fetch => tickAt fetchCycles s
  | .execute => executeCycle s
  | .interrupt => tickAt interruptCycles s
  | .halt => tick haltCycle s

/-- `n` system steps. -/
def cycles : Nat → State → Result
  | 0, s => .next s
  | n + 1, s => andThen (cycle s) (cycles n)

/-! ## The next sequence -/

/-- At the start of a sequence (cycle 1 of Reset, of a fetch, of an interrupt entry) the whole sequence runs: the reset
read, one instruction, or one interrupt entry (R468). In Halt, and inside a sequence, one cycle runs. -/
def nextSequence (s : State) : Result :=
  if s.cyc = 1 then
    match s.phase with
    | .reset => runCycles resetCycles s
    | .fetch => runInstruction s
    | .interrupt => takeInterrupt s
    | .execute => cycle s
    | .halt => cycle s
  else cycle s

/-- The state with the bytes of a table word at pc and the engine at Fetch cycle 1 with no fault recorded (log entry 6). -/
def placeFetchWord (s : State) (nbits w : Nat) : State :=
  { s with
    mem := writeBytes s.cfg.platform s.mem s.pc (tableWordBytes nbits w)
    phase := .fetch
    cyc := 1
    fault := none }

end Sys2Proof.Machine
end

