-- ==== Sys2Proof/Machine/Step.lean ====
section
/-! DEFINITION. The step of the machine and the placing of an instruction for it (spec 40_engine.md R120, R124). -/

namespace Sys2Proof.Machine

/-- One step: the next sequence of the machine, cycle by cycle (R468). A recorded fault stops it (R433). -/
def step (s : State) : Host.Outcome State Fault Refusal := nextSequence s

/-- The state in which the next step fetches and runs the instruction of a table word (log entry 6). -/
def State.withFetchWord (s : State) (nbits w : Nat) : State := placeFetchWord s nbits w

end Sys2Proof.Machine
end

