-- ==== Sys2Proof/Safety.lean ====
section
/-! DEFINITION. The terms that claims about the machine use: when a run ends (spec 60_exceptions.md R430, 49_io_system.md R365), the engine invariant (40_engine.md R132), what bus reads answer, what an instruction completes with and what it leaves unchanged. -/

namespace Sys2Proof.Machine

/-! ## End of a run -/

/-- The host ends a run at a fault, and at Halt when EXIT_ON_HALT is true (R365, D32). The engine ignores it. -/
def hostStops (s : State) : Bool := s.fault.isSome || (s.cfg.exitOnHalt && s.phase == .halt)

/-- The state a stopped run is left in (R431). -/
def Fault.final : Fault → State
  | .configUnknownOpcode s => s
  | .configTable s => s
  | .configImage s => s
  | .busNoDevice s => s
  | .busReadOnly s => s
  | .busWriteOnly s => s
  | .busNoValue s => s
  | .busSplit s => s
  | .seqRange s => s

/-- The machine is in `t` afterwards: as the next state, or stopped there by a fault. -/
def Leaves (r : Result) (t : State) : Prop := r = .next t ∨ ∃ f : Fault, r = .fault f ∧ f.final = t

/-- The step ends in the fault `f`, and the machine is left in a state with the property (R431). -/
def FaultsWith (r : Result) (f : FaultReg) (P : State → Prop) : Prop :=
  ∃ t, r = .fault (faultOf f t) ∧ t.fault = some f ∧ P t

/-! ## The engine invariant -/

/-- The Execute cycles of each template (the table of R140). -/
def templateLength : Mnemonic → Mode → Nat
  | .str, _ | .strb, _ => 4
  | .jsr, _ => 6
  | .jmp, _ | .beq, _ | .bne, _ | .bcs, _ | .bcc, _ | .bmi, _ | .bpl, _ | .bvs, _ | .bvc, _ | .blt, _ | .bgt, _ => 3
  | .push, _ | .pushb, _ | .pop, _ | .popb, _ => 2
  | .rts, _ => 4
  | .rti, _ => 5
  | .inp, .immediate | .out, .immediate => 3
  | .inp, _ | .out, _ => 2
  | _, .immediate => 2
  | _, .absolute => 4
  | _, .register | _, .implied => 1

/-- The last cycle of the present sequence (R132). An opcode that the table does not decode has one Execute cycle, the
one that faults (R125). -/
def lastCycle (s : State) : Nat :=
  match s.phase with
  | .reset => 3
  | .fetch => 3
  | .execute =>
    match entryOf s.cfg.opcodeTable s.irOp with
    | .ok (mn, mode) => templateLength mn mode
    | .error _ => 1
  | .interrupt => 8
  | .halt => 1

/-- No fault is recorded and the cycle counter is in the range of its sequence (R132). -/
abbrev CounterInRange (s : State) : Prop := s.fault = none ∧ 1 ≤ s.cyc ∧ s.cyc ≤ lastCycle s

/-! ## Memory as claims see it -/

/-- Memory changes only by this engine's writes (EXTERNAL_WRITERS false, R85). -/
abbrev SoleWriter (s : State) : Prop := s.cfg.externalWriters = false

/-- A bus read of one byte, or of two if `wide`, is answered with `v`, whatever the environment drives (R74). -/
def Reads (s : State) (a : Addr) (wide : Bool) (v : Word) : Prop := ∀ l, memRead s.cfg s.mem l a wide = .ok v

/-- The state after the environment's part of the next `n` cycles, the engine standing still. -/
def envAt : Nat → State → State
  | 0, s => s
  | n + 1, s => envAt n (environment s)

/-- The pin levels and device answers in the `n`-th cycle from now. -/
def linesAt (s : State) (n : Nat) : Lines := (envAt n s).lines

/-- The device that claims the address stores what is written to it (R74). -/
def StoresAt (s : State) (a : Addr) : Prop :=
  ∃ d, firstDevice s.cfg.platform a = some d ∧ d.onWrite = .store

/-- The device that claims the address is RAM: it stores what is written and answers with it (R74). -/
def RamAt (s : State) (a : Addr) : Prop :=
  ∃ d, firstDevice s.cfg.platform a = some d ∧ d.onWrite = .store ∧ d.onRead = .memory

/-- Every byte of memory reads as before. -/
def KeepsMemory (s t : State) : Prop := ∀ a, readByte t a = readByte s a

/-- Every byte of memory outside the listed addresses reads as before. -/
def KeepsMemoryBut (stored : List Addr) (s t : State) : Prop := ∀ a, a ∉ stored → readByte t a = readByte s a

/-- Nothing is stored and no device accepts a write; memory as before unless another bus owner writes it (R85). -/
def NoStore (s t : State) : Prop := t.accepted = s.accepted ∧ (SoleWriter s → KeepsMemory s t)

/-- The address of the stack offset `off` (R31). -/
def stackByte (s : State) (off : Word) : Addr := joinAddr s.cfg.stackPage off

/-! ## What a transaction ends in -/

/-- A memory transaction at `a` (R74), read and write: no device, then a word that leaves the device, then the device's
answer. A device that keeps bytes answers with them; the result of any other device is coded as in R430. -/
def MemoryTransaction (c : Config) (m : Memory) (l : Lines) (a : Addr) (wide : Bool) (v : Word) : Prop :=
  match firstDevice c.platform a with
  | none =>
    memRead c m l a wide = .error (.busNoDevice (.mem a) false) ∧
      memWrite c m l a wide v = .error (.busNoDevice (.mem a) true)
  | some d =>
    if wide = true ∧ ¬(d.first ≤ a + 1 ∧ a + 1 ≤ d.last) then
      memRead c m l a wide = .error (.busSplit a) ∧ memWrite c m l a wide v = .error (.busSplit a)
    else
      (d.onRead = .memory →
        (∀ b, wide = false → readCell c.platform m a = some b → memRead c m l a wide = .ok (b.setWidth 16)) ∧
        (∀ hi lo, wide = true → readCell c.platform m a = some hi → readCell c.platform m (a + 1) = some lo →
          memRead c m l a wide = .ok (joinWord hi lo)) ∧
        (readCell c.platform m a = none ∨ wide = true ∧ readCell c.platform m (a + 1) = none →
          memRead c m l a wide = .error (.busNoValue (.mem a) false))) ∧
      (∀ rs, d.onRead = .rules rs ∨ d.onRead = .external ∧ rs = l.busReads →
        memRead c m l a wide =
          match busAnswer rs a wide none, wide with
          | .value8 b, false => .ok (b.setWidth 16)
          | .value16 w, true => .ok w
          | .writeOnly, _ => .error (.busWriteOnly (.mem a))
          | .noDevice, _ => .error (.busNoDevice (.mem a) false)
          | _, _ => .error (.busNoValue (.mem a) false)) ∧
      (d.onWrite = .store → ∃ m', memWrite c m l a wide v = .ok (m', [])) ∧
      ∀ rs, d.onWrite = .rules rs ∨ d.onWrite = .external ∧ rs = l.busWrites →
        memWrite c m l a wide v =
          match busAnswer rs a wide (some v) with
          | .done => .ok (m, [.bus a wide v])
          | .readOnly => .error (.busReadOnly (.mem a))
          | .noDevice => .error (.busNoDevice (.mem a) true)
          | _ => .error (.busNoValue (.mem a) true)

/-- An IO transaction at `port` (R75), read and write: no device with that port, then the device's answer, coded as in R430
(90_conflicts.md C4). -/
def IoTransaction (c : Config) (l : Lines) (port value : Byte) : Prop :=
  match firstIoDevice c.platform port with
  | none =>
    ioReadResult c l port = .error (.busNoDevice (.io port) false) ∧
      ioWriteResult c l port value = .error (.busNoDevice (.io port) true)
  | some d =>
    (∀ rs, d.onRead = .rules rs ∨ d.onRead = .external ∧ rs = l.ioReads →
      ioReadResult c l port =
        match ioAnswer rs port none with
        | .value8 b => .ok b
        | .writeOnly => .error (.busWriteOnly (.io port))
        | .noDevice => .error (.busNoDevice (.io port) false)
        | _ => .error (.busNoValue (.io port) false)) ∧
    ∀ rs, d.onWrite = .rules rs ∨ d.onWrite = .external ∧ rs = l.ioWrites →
      ioWriteResult c l port value =
        match ioAnswer rs port (some value) with
        | .done => .ok [.io port value]
        | .readOnly => .error (.busReadOnly (.io port))
        | .noDevice => .error (.busNoDevice (.io port) true)
        | _ => .error (.busNoValue (.io port) true)

/-! ## What an instruction does -/

/-- Where the Execute cycles of an instruction can run: state Execute, no fault recorded (R120). -/
abbrev Ready (s : State) : Prop := s.fault = none ∧ s.phase = .execute

/-- Where a fetch starts: cycle 1 of Fetch, no fault recorded (R124). -/
abbrev AtFetch (s : State) : Prop := s.fault = none ∧ s.phase = .fetch ∧ s.cyc = 1

/-- Where an interrupt entry starts: cycle 1 of Interrupt with an interrupt latched, no fault recorded (R413). -/
abbrev AtInterrupt (s : State) : Prop := s.fault = none ∧ s.phase = .interrupt ∧ s.cyc = 1 ∧ s.istat ≠ .none

/-- The instruction runs to its end and the next state has the property. -/
def Completes (i : Instr) (s : State) (P : State → Prop) : Prop := ∃ t, exec i s = .next t ∧ P t

/-- The finish step has run (R126): cycle 1 of the next sequence, all enables 0, Interrupt if an interrupt is latched. -/
def Finished (t : State) : Prop :=
  t.fault = none ∧ t.cyc = 1 ∧ t.busEnable = false ∧ t.ioEnable = false ∧ t.irqAck = false ∧
    t.phase = if t.istat = .none then .fetch else .interrupt

/-- What no instruction changes: the configuration (R41), the instruction register (R34), a latched interrupt (R403). -/
def KeepsEngine (s t : State) : Prop :=
  t.cfg = s.cfg ∧ t.irOp = s.irOp ∧ t.irMeta = s.irMeta ∧ (s.istat ≠ .none → t.istat = s.istat)

/-- The memory bus outputs hold their last values (R40). -/
def KeepsBusPorts (s t : State) : Prop :=
  t.address = s.address ∧ t.rw = s.rw ∧ t.word = s.word ∧ t.data = s.data

/-- The IO bus outputs hold their last values (R40). -/
def KeepsIoPorts (s t : State) : Prop := t.ioAddress = s.ioAddress ∧ t.ioRw = s.ioRw ∧ t.ioData = s.ioData

/-- Registers, flags, pc, sp and scratch register after an instruction; the engine's other state kept; finished. -/
def Effect (s t : State) (regs : Regs) (flags : Flags) (pc : Addr) (sp : Word) (scr : Addr) : Prop :=
  t.regs = regs ∧ t.flags = flags ∧ t.pc = pc ∧ t.sp = sp ∧ t.scr = scr ∧ KeepsEngine s t ∧ Finished t

/-- The registers after a write of `v` through the selector `sel`. -/
def regsWith (s : State) (sel : Selector) (v : Word) : Regs := writeTarget s.regs (decodeSelector s.cfg.halfSel sel) v

/-- The registers after an optional w-bit result goes to `r1`, zero-extended (R141). -/
def regsAfter {w : Nat} (s : State) (r1 : Selector) (r : Option (BitVec w)) : Regs :=
  match r with
  | some v => regsWith s r1 (v.setWidth 16)
  | none => s.regs

/-- What an ALU-class operation is by its rule: from the flags and the operands, an optional result and the flags. -/
abbrev AluSpec (w : Nat) := Flags → BitVec w → BitVec w → Option (BitVec w) × Flags

/-- As `AluSpec`, with one operand. -/
abbrev AluSpec1 (w : Nat) := Flags → BitVec w → Option (BitVec w) × Flags

/-! ### The operations by their rules, on numbers -/

/-- Z and N from a w-bit result, every other flag kept: `ZN(r)` of R200. -/
def withZN {w : Nat} (f : Flags) (r : BitVec w) : Flags := { f with z := decide (r = 0), n := r.getMsbD 0 }

/-- ADD, ADDB (R201, R202 with C_add and V_add of R200). -/
def ruleAdd {w : Nat} : AluSpec w := fun f a b =>
  let r := BitVec.ofNat w (a.toNat + b.toNat)
  (some r, { withZN f r with c := decide (a.toNat + b.toNat ≥ 2 ^ w)
                             v := decide (a.getMsbD 0 = b.getMsbD 0 ∧ r.getMsbD 0 ≠ a.getMsbD 0) })

/-- SUB, SUBB (R203, R204 with C_sub and V_sub of R200). -/
def ruleSub {w : Nat} : AluSpec w := fun f a b =>
  let r := BitVec.ofInt w ((a.toNat : Int) - b.toNat)
  (some r, { withZN f r with c := decide (a.toNat < b.toNat)
                             v := decide (a.getMsbD 0 ≠ b.getMsbD 0 ∧ r.getMsbD 0 ≠ a.getMsbD 0) })

/-- INC, INCB (R205, R206). -/
def ruleInc {w : Nat} : AluSpec1 w := fun f a =>
  let r := BitVec.ofNat w (a.toNat + 1)
  (some r, withZN f r)

/-- DEC, DECB (R207, R208). -/
def ruleDec {w : Nat} : AluSpec1 w := fun f a =>
  let r := BitVec.ofInt w ((a.toNat : Int) - 1)
  (some r, withZN f r)

/-- AND, ANDB (R221, R222). -/
def ruleAnd {w : Nat} : AluSpec w := fun f a b => (some (a &&& b), withZN f (a &&& b))

/-- OR, ORB (R223, R224). -/
def ruleOr {w : Nat} : AluSpec w := fun f a b => (some (a ||| b), withZN f (a ||| b))

/-- XOR, XORB (R225, R226). -/
def ruleXor {w : Nat} : AluSpec w := fun f a b => (some (a ^^^ b), withZN f (a ^^^ b))

/-- NOT, NOTB: the complement is 2^w - 1 - a (R227, R228). -/
def ruleNot {w : Nat} : AluSpec1 w := fun f a =>
  let r := BitVec.ofNat w (2 ^ w - 1 - a.toNat)
  (some r, withZN f r)

/-- SHL, SHLB (R241, R242). -/
def ruleShl {w : Nat} : AluSpec1 w := fun f a =>
  let r := BitVec.ofNat w (2 * a.toNat)
  (some r, { withZN f r with c := a.getLsbD (w - 1) })

/-- SHR, SHRB (R243, R244). -/
def ruleShr {w : Nat} : AluSpec1 w := fun f a =>
  let r := BitVec.ofNat w (a.toNat / 2)
  (some r, { withZN f r with c := a.getLsbD 0 })

/-- ROL, ROLB (R245, R246). -/
def ruleRol {w : Nat} : AluSpec1 w := fun f a =>
  let r := BitVec.ofNat w (2 * a.toNat + (a.getLsbD (w - 1)).toNat)
  (some r, { withZN f r with c := a.getLsbD (w - 1) })

/-- ROR, RORB (R247, R248). -/
def ruleRor {w : Nat} : AluSpec1 w := fun f a =>
  let r := BitVec.ofNat w (a.toNat / 2 + (a.getLsbD 0).toNat * 2 ^ (w - 1))
  (some r, { withZN f r with c := a.getLsbD 0 })

/-- CMP, CMPB (R261, R262). -/
def ruleCmp {w : Nat} : AluSpec w := fun f a b =>
  (none, { f with z := decide (a = b), lt := decide (a.toNat < b.toNat), gt := decide (a.toNat > b.toNat) })

/-- MOV, MOVB (R281, R282). -/
def ruleMov {w : Nat} : AluSpec w := fun f _ b => (some b, withZN f b)

/-! ### Forms -/

/-- Register, Immediate and Absolute forms of a two-operand mnemonic at width w: each completes with the result and the
flags of `spec`, a being R1, and changes nothing else (R141, R142, R144). The Absolute form reads its operand at the
effective address. -/
def TwoOperandForms (w : Nat) (imm : Selector → BitVec w → Instr) (reg : Selector → Selector → Instr)
    (abs : Selector → AbsOperand → Instr) (spec : AluSpec w) : Prop :=
  ∀ s, Ready s →
    (∀ r1 b, Completes (imm r1 b) s (fun t =>
      let out := spec s.flags ((readSel s r1).setWidth w) b
      Effect s t (regsAfter s r1 out.1) out.2 s.pc s.sp s.scr ∧ NoStore s t ∧ KeepsBusPorts s t ∧ KeepsIoPorts s t)) ∧
    (∀ r1 r2, Completes (reg r1 r2) s (fun t =>
      let out := spec s.flags ((readSel s r1).setWidth w) ((readSel s r2).setWidth w)
      Effect s t (regsAfter s r1 out.1) out.2 s.pc s.sp s.scr ∧ NoStore s t ∧ KeepsBusPorts s t ∧ KeepsIoPorts s t)) ∧
    (∀ r1 m v, SoleWriter s →
      memRead s.cfg s.mem (linesAt s 1) (effectiveAddr s m) (w == 16) = .ok v →
      Completes (abs r1 m) s (fun t =>
        let out := spec s.flags ((readSel s r1).setWidth w) (v.setWidth w)
        Effect s t (regsAfter s r1 out.1) out.2 s.pc s.sp (effectiveAddr s m) ∧ NoStore s t ∧ KeepsIoPorts s t ∧
          t.address = effectiveAddr s m ∧ t.rw = false ∧ t.word = (w == 16) ∧ t.data = v))

/-- The Register form of a one-operand mnemonic at width w (R144). -/
def OneOperandForm (w : Nat) (reg : Selector → Instr) (spec : AluSpec1 w) : Prop :=
  ∀ s, Ready s → ∀ r1, Completes (reg r1) s (fun t =>
    let out := spec s.flags ((readSel s r1).setWidth w)
    Effect s t (regsAfter s r1 out.1) out.2 s.pc s.sp s.scr ∧ NoStore s t ∧ KeepsBusPorts s t ∧ KeepsIoPorts s t)

/-- A jump or branch: pc is the effective address if the condition holds, else the next instruction (R146). -/
def JumpForm (i : AbsOperand → Instr) (cond : Flags → Bool) : Prop :=
  ∀ s m, Ready s → Completes (i m) s (fun t =>
    Effect s t s.regs s.flags (if cond s.flags then effectiveAddr s m else s.pc) s.sp (effectiveAddr s m) ∧
      NoStore s t ∧ KeepsBusPorts s t ∧ KeepsIoPorts s t)

/-- An Implied instruction that changes flags at most (R145). -/
def FlagForm (i : Instr) (flags : Flags → Flags) : Prop :=
  ∀ s, Ready s → Completes i s (fun t =>
    Effect s t s.regs (flags s.flags) s.pc s.sp s.scr ∧ NoStore s t ∧ KeepsBusPorts s t ∧ KeepsIoPorts s t)

/-- STR, STRB: R1 goes to the effective address, two bytes big-endian or its low byte; only those bytes change (R143,
R283, R284). -/
def StoreForm (wide : Bool) (i : Selector → AbsOperand → Instr) : Prop :=
  ∀ s r1 m mem' log, Ready s → SoleWriter s →
    let a := effectiveAddr s m
    let v : Word := if wide then readSel s r1 else (loByte (readSel s r1)).setWidth 16
    memWrite s.cfg s.mem (linesAt s 1) a wide v = .ok (mem', log) →
    Completes (i r1 m) s (fun t =>
      Effect s t s.regs s.flags s.pc s.sp a ∧ KeepsIoPorts s t ∧
        t.address = a ∧ t.rw = true ∧ t.word = wide ∧ t.data = v ∧
        t.mem = mem' ∧ t.accepted = log ++ s.accepted ∧
        KeepsMemoryBut (if wide then [a, a + 1] else [a]) s t ∧
        (StoresAt s a →
          if wide then readByte t a = some (hiByte v) ∧ readByte t (a + 1) = some (loByte v)
          else readByte t a = some (loByte v)))

/-- The byte count of a stack transfer: 2 for a word, 1 for a byte (R300). -/
def countOf (wide : Bool) : Word := if wide then 2 else 1

/-- PUSH, PUSHB: R1 goes to SA(sp), then sp rises by the byte count; only those bytes change (R149, R300 to R302). -/
def PushForm (wide : Bool) (i : Selector → Instr) : Prop :=
  ∀ s r1 mem' log, Ready s → SoleWriter s →
    let a := stackByte s s.sp
    let v : Word := if wide then readSel s r1 else (loByte (readSel s r1)).setWidth 16
    memWrite s.cfg s.mem (linesAt s 1) a wide v = .ok (mem', log) →
    Completes (i r1) s (fun t =>
      Effect s t s.regs s.flags s.pc (s.sp + countOf wide) s.scr ∧ KeepsIoPorts s t ∧
        t.address = a ∧ t.rw = true ∧ t.word = wide ∧ t.data = v ∧
        t.mem = mem' ∧ t.accepted = log ++ s.accepted ∧
        KeepsMemoryBut (if wide then [a, a + 1] else [a]) s t ∧
        (StoresAt s a →
          if wide then readByte t a = some (hiByte v) ∧ readByte t (a + 1) = some (loByte v)
          else readByte t a = some (loByte v)))

/-- POP, POPB: sp falls by the byte count, R1 gets what stands at the new SA(sp), a byte zero-extended (R149, R300, R303,
R304). -/
def PopForm (wide : Bool) (i : Selector → Instr) : Prop :=
  ∀ s r1 v, Ready s → SoleWriter s →
    let a := stackByte s (s.sp - countOf wide)
    memRead s.cfg s.mem (linesAt s 1) a wide = .ok v →
    Completes (i r1) s (fun t =>
      Effect s t (regsWith s r1 v) s.flags s.pc (s.sp - countOf wide) s.scr ∧ NoStore s t ∧ KeepsIoPorts s t ∧
        t.address = a ∧ t.rw = false ∧ t.word = wide ∧ t.data = v)

/-- What IN leaves: R1 holds the byte, the IO bus shows the transaction, the port is in scr[7:0]; no flag (R148, R361). -/
def InEffect (s t : State) (r1 : Selector) (port b : Byte) : Prop :=
  Effect s t (regsWith s r1 (b.setWidth 16)) s.flags s.pc s.sp (s.scr &&& 0xFFFF00 ||| port.setWidth 24) ∧ NoStore s t ∧
    KeepsBusPorts s t ∧ t.ioAddress = port ∧ t.ioRw = false ∧ t.ioData = b

/-- What OUT leaves: the low byte of R1 has been accepted once by the port's device, the IO bus shows the transaction, the
port is in scr[7:0]; no register, no flag and no byte of memory changes (R148, R362). -/
def OutEffect (s t : State) (r1 : Selector) (port : Byte) (log : List Accepted) : Prop :=
  Effect s t s.regs s.flags s.pc s.sp (s.scr &&& 0xFFFF00 ||| port.setWidth 24) ∧ (SoleWriter s → KeepsMemory s t) ∧
    KeepsBusPorts s t ∧ t.ioAddress = port ∧ t.ioRw = true ∧ t.ioData = loByte (readSel s r1) ∧
    t.accepted = log ++ s.accepted

/-- What a fault of a transaction leaves as it was, if no cycle before it stored anything: registers, flags, pc, every byte
of memory, the accepted writes, the engine's latches (R431). -/
def FaultKeepsAll (s t : State) : Prop :=
  t.regs = s.regs ∧ t.flags = s.flags ∧ t.pc = s.pc ∧ KeepsMemory s t ∧ t.accepted = s.accepted ∧ KeepsEngine s t

/-- The same for a transaction of an instruction; the engine stays in Execute (R431). -/
def FaultKeeps (s t : State) : Prop := FaultKeepsAll s t ∧ t.phase = .execute

/-- The Absolute form of an ALU-class mnemonic whose operand read faults: no register and no flag changes (R142, R431). -/
def LoadFaultForm (wide : Bool) (i : Selector → AbsOperand → Instr) : Prop :=
  ∀ s r1 m f, Ready s → SoleWriter s →
    memRead s.cfg s.mem (linesAt s 1) (effectiveAddr s m) wide = .error f →
    FaultsWith (exec (i r1 m) s) f (fun t =>
      FaultKeeps s t ∧ t.sp = s.sp ∧ t.scr = effectiveAddr s m ∧ t.data = s.data ∧
        t.address = effectiveAddr s m ∧ t.rw = false ∧ t.word = wide ∧ t.busEnable = true)

/-! ### Faults inside a sequence of stack bytes -/

/-- The address of the `k`-th byte from the stack pointer up, the offset modulo 2^16 (R31). -/
def stackSlot (s : State) (k : Nat) : Addr := stackByte s (s.sp + BitVec.ofNat 16 k)

/-- Pushing the bytes, one a cycle from the `n`-th cycle on and from stack offset `off` up, leads from memory `m` and
accepted writes `log` to `m'` and `log'` (R31, R74). -/
def BytesPushed (s : State) (n : Nat) (off : Word) (m : Memory) (log : List Accepted) :
    List Byte → Memory → List Accepted → Prop
  | [], m', log' => m' = m ∧ log' = log
  | b :: rest, m', log' => ∃ m1 l1,
      memWrite s.cfg m (linesAt s n) (stackByte s off) false (b.setWidth 16) = .ok (m1, l1) ∧
        BytesPushed s (n + 1) (off + 1) m1 (l1 ++ log) rest m' log'

/-- Popping from stack offset `off` down, one byte a cycle from the `n`-th cycle on, is answered with the bytes (R31,
R74). -/
def BytesPopped (s : State) (n : Nat) (off : Word) : List Byte → Prop
  | [] => True
  | b :: rest =>
    memRead s.cfg s.mem (linesAt s n) (stackByte s (off - 1)) false = .ok (b.setWidth 16) ∧
      BytesPopped s (n + 1) (off - 1) rest

/-- What the fault of a push leaves when the bytes `before` have been pushed: their writes stand, no other byte has
changed, and sp has moved past the faulting byte too; registers, flags, pc and the engine's latches as before (R431, log
entry 13). -/
def PushFaultLeaves (s : State) (before : List Byte) (m : Memory) (log : List Accepted) (t : State) : Prop :=
  t.regs = s.regs ∧ t.flags = s.flags ∧ t.pc = s.pc ∧ KeepsEngine s t ∧ t.phase = s.phase ∧
    t.sp = s.sp + BitVec.ofNat 16 (before.length + 1) ∧ t.mem = m ∧ t.accepted = log ∧
    KeepsMemoryBut ((List.range before.length).map (stackSlot s)) s t ∧
    ∀ k b, before[k]? = some b → StoresAt s (stackSlot s k) → readByte t (stackSlot s k) = some b

/-- JSR stopped by any of its three pushes, bank, high and low byte of the return address (R147, R322, R431). -/
def CallFaultForm : Prop :=
  ∀ s operand before b rest m log f, Ready s → SoleWriter s →
    [bankOf s.pc, hiByte (segOf s.pc), loByte (segOf s.pc)] = before ++ b :: rest →
    BytesPushed s 1 s.sp s.mem s.accepted before m log →
    memWrite s.cfg m (linesAt s (1 + before.length)) (stackSlot s before.length) false (b.setWidth 16) = .error f →
    FaultsWith (exec (.jsr operand) s) f (PushFaultLeaves s before m log)

/-- RTS stopped by any of its three pops, RTI by any of its four: nothing has been written, neither pc nor the flags
(R149, R323, R324, R431). -/
def ReturnFaultForm : Prop :=
  ∀ s popped f, Ready s → SoleWriter s → BytesPopped s 1 s.sp popped →
    memRead s.cfg s.mem (linesAt s (1 + popped.length))
      (stackByte s (s.sp - BitVec.ofNat 16 (popped.length + 1))) false = .error f →
    (popped.length < 3 → FaultsWith (exec .rts s) f (fun t =>
      FaultKeeps s t ∧ t.sp = s.sp - BitVec.ofNat 16 (popped.length + 1))) ∧
    (popped.length < 4 → FaultsWith (exec .rti s) f (fun t =>
      FaultKeeps s t ∧ t.sp = s.sp - BitVec.ofNat 16 (popped.length + 1)))

/-- Interrupt entry stopped by a read of its vector slot, or by any of its four pushes, flag byte, bank, high and low byte
of pc (R412 to R416, R431). -/
def EntryFaultForm : Prop :=
  ∀ s f, AtInterrupt s → SoleWriter s →
    let slot := if s.istat = .irq then s.cfg.vectorBase + BitVec.ofNat 24 (3 * (linesAt s 2).vector.toNat)
      else s.cfg.nmiVectorAddr
    (memRead s.cfg s.mem (linesAt s 2) slot false = .error f →
      FaultsWith (step s) f (fun t => FaultKeepsAll s t ∧ t.sp = s.sp ∧ t.phase = .interrupt)) ∧
    ∀ bank, memRead s.cfg s.mem (linesAt s 2) slot false = .ok bank →
      (memRead s.cfg s.mem (linesAt s 3) (slot + 1) true = .error f →
        FaultsWith (step s) f (fun t => FaultKeepsAll s t ∧ t.sp = s.sp ∧ t.phase = .interrupt)) ∧
      ∀ seg before b rest m log, memRead s.cfg s.mem (linesAt s 3) (slot + 1) true = .ok seg →
        [packFlags s.cfg.flagLayout s.flags, bankOf s.pc, hiByte (segOf s.pc), loByte (segOf s.pc)] = before ++ b :: rest →
        BytesPushed s 4 s.sp s.mem s.accepted before m log →
        memWrite s.cfg m (linesAt s (4 + before.length)) (stackSlot s before.length) false (b.setWidth 16) = .error f →
        FaultsWith (step s) f (PushFaultLeaves s before m log)

/-! ## Metadata fields -/

/-- Two metadata words agree in every field that the mnemonic uses in this mode, under the default META_LAYOUT (R93). -/
def sameUsedFields (mn : Mnemonic) (mode : Mode) (m m' : Word) : Bool :=
  let r1 := m.extractLsb' 12 4 == m'.extractLsb' 12 4
  let r2 := m.extractLsb' 8 4 == m'.extractLsb' 8 4
  match mode with
  | .implied => true
  | .immediate => r1
  | .register =>
    match mn with
    | .inc | .incb | .dec | .decb | .not | .notb | .shl | .shlb | .shr | .shrb | .rol | .rolb | .ror | .rorb
    | .push | .pushb | .pop | .popb => r1
    | _ => r1 && r2
  | .absolute =>
    (match mn with
      | .jmp | .jsr | .beq | .bne | .bcs | .bcc | .bmi | .bpl | .bvs | .bvc | .blt | .bgt => true
      | _ => r1) &&
    m.getLsbD 7 == m'.getLsbD 7 &&
    (if m.getLsbD 7 then r2 else m.extractLsb' 0 7 == m'.extractLsb' 0 7)

/-! ## Instructions in memory -/

/-- The bytes of one instruction stand at pc: each of its fetch transactions is answered with them (R124, R133, R141). -/
def InstrAt (s : State) : List Byte → Prop
  | op :: h :: l :: operand =>
    Reads s s.pc false (op.setWidth 16) ∧ Reads s (s.pc + 1) true (joinWord h l) ∧
      match operand with
      | [] => True
      | [x] => Reads s (s.pc + 3) false (x.setWidth 16)
      | [x, y] => Reads s (s.pc + 3) true (joinWord x y)
      | [x, y, z] => Reads s (s.pc + 3) false (x.setWidth 16) ∧ Reads s (s.pc + 4) true (joinWord y z)
      | _ => False
  | _ => False

end Sys2Proof.Machine
end

