-- ==== Sys2Proof/Certificates/Slice0/Obligations.lean ====
section
/-! DEFINITION. The statements for the provers, in the order of OBLIGATIONS.json. They formalise the numbered rules of spec/; the terms they use are in Safety.lean. A statement about every state holds for every value of the parameters of R6, which are the field `cfg` of the state. -/

open Sys2Proof Sys2Proof.Machine

/-! ## Registers, flags, addresses -/

/-- R22: the sixteen selectors under the default HALF_SEL_LAYOUT; under every layout a selector with bit 3 clear names the
register of its two low bits, so 4..7 alias 0..3. -/
def Obligations.SelectorDecodeAliases : Prop :=
  (List.range 16).map (fun n => decodeSelector Config.reference.halfSel (BitVec.ofNat 4 n)) =
      [.full .A, .full .B, .full .C, .full .D, .full .A, .full .B, .full .C, .full .D,
       .half .A true, .half .A false, .half .B true, .half .B false,
       .half .C true, .half .C false, .half .D true, .half .D false] ∧
    ∀ (l : HalfSelLayout) (sel : Selector), sel.toNat < 4 →
      decodeSelector l (sel + 4) = decodeSelector l sel ∧
        ([RegName.A, .B, .C, .D].map Target.full)[sel.toNat]? = some (decodeSelector l sel)

/-- R23: `ReadSel` as a number: the register, or its high or its low byte zero-extended. -/
def Obligations.ReadSelectorValue : Prop :=
  ∀ s sel, (readSel s sel).toNat =
    match decodeSelector s.cfg.halfSel sel with
    | .full r => (s.regs.get r).toNat
    | .half r true => (s.regs.get r).toNat / 256
    | .half r false => (s.regs.get r).toNat % 256

/-- R24, R21: `WriteSel` as numbers: a full register takes v; a half takes v[7:0], the other half keeps its byte, and the
16-bit view is 256 H + L; no other register and nothing else changes. -/
def Obligations.WriteSelectorKeepsOtherHalf : Prop :=
  ∀ s sel v,
    let t := writeSel sel v s
    (match decodeSelector s.cfg.halfSel sel with
      | .full r => t.regs.get r = v ∧ ∀ q, q ≠ r → t.regs.get q = s.regs.get q
      | .half r true =>
        (t.regs.get r).toNat = 256 * (v.toNat % 256) + (s.regs.get r).toNat % 256 ∧
          ∀ q, q ≠ r → t.regs.get q = s.regs.get q
      | .half r false =>
        (t.regs.get r).toNat = 256 * ((s.regs.get r).toNat / 256) + v.toNat % 256 ∧
          ∀ q, q ≠ r → t.regs.get q = s.regs.get q) ∧
      t = { s with regs := t.regs }

/-- R28: unpacking the packed flag byte gives the flags back under every layout that gives each flag a bit of its own; the
default layout is 0:I:GT:LT:V:C:N:Z, and unpacking ignores bit 7. -/
def Obligations.FlagByteRoundTrip : Prop :=
  (∀ (l : FlagLayout) (f : Flags), l.wf = true → unpackFlags l (packFlags l f) = f) ∧
    (∀ f : Flags, packFlags Config.reference.flagLayout f =
      0#1 ++ BitVec.ofBool f.i ++ BitVec.ofBool f.gt ++ BitVec.ofBool f.lt ++ BitVec.ofBool f.v ++
        BitVec.ofBool f.c ++ BitVec.ofBool f.n ++ BitVec.ofBool f.z) ∧
    ∀ b : Byte, unpackFlags Config.reference.flagLayout (b ^^^ 0x80) = unpackFlags Config.reference.flagLayout b

/-- R29: an offset of any integer is added modulo 2^24; 0x00FFFF + 1 is 0x010000 and 0xFFFFFF + 1 is 0x000000. -/
def Obligations.AddressArithmeticWraps : Prop :=
  (∀ (a : Addr) (k : Int), ((offsetAddr a k).toNat : Int) = (a.toNat + k) % 2 ^ 24) ∧
    offsetAddr 0x00FFFF 1 = 0x010000 ∧ offsetAddr 0xFFFFFF 1 = 0x000000 ∧
    ∀ a : Addr, joinAddr (bankOf a) (segOf a) = a ∧ (bankOf a).toNat = a.toNat / 65536 ∧ (segOf a).toNat = a.toNat % 65536

/-- R95, R134: the effective address is bank:segment plus the offset modulo 2^24. The offset is a sign-magnitude
displacement within -63..63, a full index register as signed 16 bits, or a half as signed 8 bits. -/
def Obligations.EffectiveAddressValue : Prop :=
  ∀ s (m : AbsOperand), ∃ off : Int,
    ((effectiveAddr s m).toNat : Int) = (m.bank.toNat * 65536 + m.seg.toNat + off) % 2 ^ 24 ∧
      match m.offset with
      | .disp neg mag => off = (if neg then -1 else 1) * (mag.toNat : Int) ∧ -63 ≤ off ∧ off ≤ 63
      | .index r2 =>
        match decodeSelector s.cfg.halfSel r2 with
        | .full r => off = if (s.regs.get r).toNat < 32768 then ((s.regs.get r).toNat : Int) else (s.regs.get r).toNat - 65536
        | .half _ _ => off = if (readSel s r2).toNat < 128 then ((readSel s r2).toNat : Int) else (readSel s r2).toNat - 256

/-! ## Encoding -/

/-- R98: in the reference table an opcode byte stands for a (mnemonic, mode) pair exactly when the mode is legal for the
mnemonic and the byte is index * 4 + mode code; 87 bytes are assigned. -/
def Obligations.ReferenceOpcodeTable : Prop :=
  (∀ (op : Byte) (mn : Mnemonic) (mode : Mode),
    entryOf referenceTable op = .ok (mn, mode) ↔ mode ∈ mn.modes ∧ op.toNat = mn.index * 4 + mode.code) ∧
    ((List.range 256).filter (fun n => (entryOf referenceTable (BitVec.ofNat 8 n)).toOption.isSome)).length = 87

/-- R90, R92, R103: under every configuration whose metadata fields are disjoint and whose table gives an opcode one entry,
decoding the encoding of an instruction gives the instruction back and leaves the bytes after it. -/
def Obligations.DecodeOfEncode : Prop :=
  ∀ (cfg : Config) (i : Instr) (bs rest : List Byte), cfg.metaLayout.wf = true → opcodesDistinct cfg.opcodeTable = true →
    encode cfg i = some bs → decode cfg (bs ++ rest) = .ok (i, rest)

/-- R90, R98, R102: under the default parameters every instruction has an encoding; its first byte is the opcode of R98 and
its length that of R102. -/
def Obligations.EveryInstructionEncodes : Prop :=
  ∀ i : Instr, ∃ (op : Byte) (tail : List Byte),
    encode Config.reference i = some (op :: tail) ∧ op.toNat = i.entry.1.index * 4 + i.entry.2.code ∧
      tail.length + 1 =
        match i.entry.2 with
        | .implied => 3
        | .register => 3
        | .immediate => 3 + i.entry.1.width / 8
        | .absolute => 6

/-- R111: the spec's example encodings, both ways. -/
def Obligations.ExampleEncodings : Prop :=
  ∀ p ∈ ([(.movImm 0 0x1234, [0x6D, 0x00, 0x00, 0x12, 0x34]),
          (.movbImm 9 0x7F, [0x71, 0x90, 0x00, 0x7F]),
          (.addReg 0 1, [0x06, 0x01, 0x00]),
          (.movAbs 2 ⟨0x01, 0x0010, .index 0⟩, [0x6F, 0x20, 0x80, 0x01, 0x00, 0x10]),
          (.str 1 ⟨0x01, 0x0020, .disp true 5⟩, [0x77, 0x10, 0x45, 0x01, 0x00, 0x20]),
          (.jsr ⟨0x00, 0x0100, .disp false 0⟩, [0x93, 0x00, 0x00, 0x00, 0x01, 0x00]),
          (.rts, [0x94, 0x00, 0x00]),
          (.hlt, [0xE4, 0x00, 0x00])] : List (Instr × List Byte)),
    encode Config.reference p.1 = some p.2 ∧ decode Config.reference p.2 = .ok (p.1, [])

/-- R93, R105: metadata fields that an instruction does not use are ignored, whatever their value. -/
def Obligations.UnusedFieldsIgnored : Prop :=
  ∀ (op : Byte) (mn : Mnemonic) (mode : Mode) (m m' : Word) (rest : List Byte),
    entryOf referenceTable op = .ok (mn, mode) → sameUsedFields mn mode m m' = true →
      decode Config.reference (op :: hiByte m :: loByte m :: rest) =
        decode Config.reference (op :: hiByte m' :: loByte m' :: rest)

/-- R102, R106: what decodes as an instruction is as long as R102 says, its first byte is an opcode of the instruction's
mnemonic and mode, and the bytes after it are left over; enough bytes under an assigned opcode always decode. -/
def Obligations.DecodeTakesTheLength : Prop :=
  ∀ (cfg : Config) (bs : List Byte),
    (∀ i rest, decode cfg bs = .ok (i, rest) →
      ∃ op used, bs = op :: used ++ rest ∧ used.length + 1 = i.length ∧ entryOf cfg.opcodeTable op = .ok i.entry) ∧
    (∀ op tail mn mode, bs = op :: tail → entryOf cfg.opcodeTable op = .ok (mn, mode) →
      instrLength mn mode ≤ bs.length → ∃ i rest, decode cfg bs = .ok (i, rest) ∧ i.entry = (mn, mode))

/-! ## Memory -/

/-- R74, R75, R76, R433: which device a transaction reaches, and what it ends in. The first device in registration order
whose range, or whose exact port, matches wins. On the memory bus: no device, then the second byte outside the device that
claims the first, then the device's own answer; on the IO bus: no device, then the device's own answer. Every result but a
success of the requested kind is coded as in R430 (90_conflicts.md C4; for ports log entry 8). That an unwritten byte has no
value is the model's choice among those of R78 (log entry 2), and how a device's behaviour is written down is the model's
own (log entry 12). -/
def Obligations.ResolutionOrder : Prop :=
  (∀ (p : Platform) (a : Addr) (d : MemDevice), firstDevice p a = some d ↔
    ∃ before after, p.devices = before ++ d :: after ∧ (d.first ≤ a ∧ a ≤ d.last) ∧
      ∀ e ∈ before, ¬(e.first ≤ a ∧ a ≤ e.last)) ∧
    (∀ (p : Platform) (port : Byte) (d : IoDevice), firstIoDevice p port = some d ↔
      ∃ before after, p.ioDevices = before ++ d :: after ∧ d.port = port ∧ ∀ e ∈ before, e.port ≠ port) ∧
    (∀ c m l a wide v, MemoryTransaction c m l a wide v) ∧
    ∀ c l port value, IoTransaction c l port value

/-- R66, R67, R80: what is stored in RAM reads back at the same width, a word big-endian and byte by byte; no other byte
changes. -/
def Obligations.StoredValueReadsBack : Prop :=
  ∀ (c : Config) (m : Memory) (l : Lines) (a : Addr) (wide : Bool) (v : Word) (d : MemDevice),
    firstDevice c.platform a = some d → d.onRead = .memory → d.onWrite = .store →
    (wide = true → d.first ≤ a + 1 ∧ a + 1 ≤ d.last) →
    ∃ m', memWrite c m l a wide v = .ok (m', []) ∧
      memRead c m' l a wide = .ok (if wide then v else (loByte v).setWidth 16) ∧
      (if wide then readCell c.platform m' a = some (hiByte v) ∧ readCell c.platform m' (a + 1) = some (loByte v)
        else readCell c.platform m' a = some (loByte v)) ∧
      ∀ b, b ≠ a → (wide = true → b ≠ a + 1) → readCell c.platform m' b = readCell c.platform m b

/-- R61, R71, R85: with no other bus owner, a cycle changes memory only by the write it requests: no byte but those at the
requested address, and none at all if it requests no write. -/
def Obligations.CycleWritesOnlyItsRequest : Prop :=
  ∀ s t, SoleWriter s → cycle s = .next t →
    (t.busEnable = true → t.rw = true → KeepsMemoryBut (if t.word then [t.address, t.address + 1] else [t.address]) s t) ∧
      (¬(t.busEnable = true ∧ t.rw = true) → KeepsMemory s t)

/-- The memory keeps its canonical form over every step. -/
def Obligations.StepKeepsMemoryCanonical : Prop :=
  ∀ s t, Memory.wf s.cfg.platform s.mem → step s = .next t → Memory.wf t.cfg.platform t.mem

/-- R77, R78: with the reference ROM and RAM, no step changes a byte of ROM, whatever other bus owners write. -/
def Obligations.RomNeverChanges : Prop :=
  ∀ s t, s.cfg.platform.devices = [referenceRom, referenceRam] → step s = .next t →
    ∀ a : Addr, a ≤ 0x00FFFF → readByte t a = readByte s a

/-- R41: no step changes a parameter: the opcode table, the stack page, the vector placement, the platform are fixed for a
run. -/
def Obligations.StepKeepsConfiguration : Prop :=
  ∀ s t, step s = .next t → t.cfg = s.cfg

/-! ## The engine -/

/-- R124, R125, R30: at Fetch cycle 1, when the bytes of a decodable instruction stand at pc, a step is the meaning of that
instruction on the state that fetching leaves: pc past the instruction, the instruction register loaded, every register,
flag, memory byte and latched interrupt as before. -/
def Obligations.StepRunsDecodedInstruction : Prop :=
  ∀ s bs i, AtFetch s → SoleWriter s → InstrAt s bs → decode s.cfg bs = .ok (i, []) →
    ∃ t, step s = exec i t ∧ Ready t ∧ t.cfg = s.cfg ∧ t.regs = s.regs ∧ t.flags = s.flags ∧ t.sp = s.sp ∧
      t.pc = s.pc + BitVec.ofNat 24 i.length ∧ t.mem = s.mem ∧ t.accepted = s.accepted ∧
      [t.irOp, hiByte t.irMeta, loByte t.irMeta] = bs.take 3 ∧ (s.istat ≠ .none → t.istat = s.istat) ∧
      KeepsIoPorts s t ∧
      t.lines = linesAt s (3 + (operandCycles i.entry.1 i.entry.2).length) ∧
      t.stim = (envAt (3 + (operandCycles i.entry.1 i.entry.2).length) s).stim

/-- R104, R125, R432: an opcode absent from the table is fetched with its metadata word and then faults, with its address
and pc one past the header; nothing else of it happens and the cycle counter is not incremented. -/
def Obligations.UnknownOpcodeFaults : Prop :=
  ∀ s op m, AtFetch s → SoleWriter s → Reads s s.pc false (op.setWidth 16) → Reads s (s.pc + 1) true m →
    entryOf s.cfg.opcodeTable op = .error (.unknownOpcode op) →
    FaultsWith (step s) (.configUnknownOpcode op s.pc) (fun t =>
      FaultKeeps { s with pc := s.pc + 3, irOp := op, irMeta := m } t ∧ t.sp = s.sp ∧ t.scr = s.scr ∧
        t.cyc = 1 ∧ t.busEnable = false ∧ t.ioEnable = false)

/-- R120, R124, R125, R413, R451, R468: at the start of a sequence a step is one to nine system steps run one after the
other. -/
def Obligations.StepIsItsCycles : Prop :=
  ∀ s, s.cyc = 1 → s.phase = .reset ∨ s.phase = .fetch ∨ s.phase = .interrupt →
    ∃ n, 1 ≤ n ∧ n ≤ 9 ∧ cycles n s = step s

/-- R140, R467: the number of cycles: 3 for Reset, 8 for interrupt entry, and for an instruction 3 more than its template,
whatever the operand values and flags. -/
def Obligations.CycleCounts : Prop :=
  ∀ s t, s.cyc = 1 → step s = .next t →
    (s.phase = .reset → cycles 3 s = .next t) ∧
      (s.phase = .interrupt → cycles 8 s = .next t) ∧
      (s.phase = .fetch → ∃ mn mode, entryOf s.cfg.opcodeTable t.irOp = .ok (mn, mode) ∧
        cycles (3 + templateLength mn mode) s = .next t)

/-- R132: a step from a state whose counter is in the range of its sequence leads to such a state. -/
def Obligations.StepKeepsCounterInRange : Prop :=
  ∀ s t, CounterInRange s → step s = .next t → CounterInRange t

/-- The two invariants hold right after reset: the memory has its canonical form, also after construction under any
configuration (R77), and the counter is in range, also after reset() in any state with a valid configuration (R132). -/
def Obligations.ResetMeetsInvariants : Prop :=
  Memory.wf State.reset.cfg.platform State.reset.mem ∧ (∀ c : Config, Memory.wf c.platform (construct c).mem) ∧
    CounterInRange State.reset ∧ ∀ s : State, configFault s.cfg = none → CounterInRange (hostReset s)

/-- R127, R132: with the counter in range no cycle and no step raises SEQ_RANGE, and the counter is at most 8. -/
def Obligations.SequencingFaultUnreachable : Prop :=
  ∀ s, CounterInRange s → s.cyc ≤ 8 ∧ ∀ t, cycle s ≠ .fault (.seqRange t) ∧ step s ≠ .fault (.seqRange t)

/-- R32: the transitions of the engine's state, cycle by cycle. -/
def Obligations.PhaseTransitions : Prop :=
  ∀ s t, cycle s = .next t →
    t.phase = s.phase ∨ (s.phase = .reset ∧ t.phase = .fetch) ∨ (s.phase = .fetch ∧ t.phase = .execute) ∨
      (s.phase = .execute ∧ (t.phase = .fetch ∨ t.phase = .interrupt ∨ t.phase = .halt) ∧
        t.cyc = 1 ∧ t.busEnable = false ∧ t.ioEnable = false) ∨
      (s.phase = .interrupt ∧ t.phase = .fetch)

/-- R126: after the finish step of an instruction the next sequence is Halt if the instruction is HLT, else Interrupt if an
interrupt is latched, else Fetch, from cycle 1 and with no request. -/
def Obligations.FinishChoosesNextState : Prop :=
  ∀ i s t, Ready s → exec i s = .next t →
    t.phase = (if i = .hlt then .halt else if t.istat ≠ .none then .interrupt else .fetch) ∧
      t.cyc = 1 ∧ t.busEnable = false ∧ t.ioEnable = false ∧ t.irqAck = false ∧ t.fault = none

/-! ## Interrupts -/

/-- R401, R404: in every cycle that starts with no fault recorded, also one that ends in a fault, nmi_prev becomes the NMI
level, and the latch takes the IRQ if it is empty and I is 0, else an NMI edge; only Interrupt cycle 8 writes the latch
after that. -/
def Obligations.SampledEveryCycle : Prop :=
  ∀ s t, s.fault = none → Leaves (cycle s) t →
    t.nmiPrev = (linesAt s 1).nmi ∧
      (¬(s.phase = .interrupt ∧ s.cyc = 8) →
        t.istat =
          if s.istat ≠ .none then s.istat
          else if (linesAt s 1).irq = true ∧ s.flags.i = false then .irq
          else if (linesAt s 1).nmi = true ∧ s.nmiPrev = false then .nmi
          else .none)

/-- R403: a latched interrupt stays latched, whatever the lines and I do, until Interrupt cycle 8 clears it (R417) or
reset() does. -/
def Obligations.LatchHeldUntilServiced : Prop :=
  (∀ s t, s.istat ≠ .none → Leaves (cycle s) t →
    t.istat = s.istat ∨
      (s.phase = .interrupt ∧ s.cyc = 8 ∧ t.istat = .none ∧ (s.istat = .irq ∨ s.cfg.nmiClearsLatch = true))) ∧
    ∀ s, (hostReset s).istat = .none

/-- R414, R123, R63: the acknowledge line is 1 after Interrupt cycle 1 and after no other cycle, and no cycle requests both
a memory and an IO transaction. -/
def Obligations.AcknowledgeAndRequests : Prop :=
  ∀ s t, cycle s = .next t →
    (t.irqAck = true ↔ s.phase = .interrupt ∧ s.cyc = 1) ∧ ¬(t.busEnable = true ∧ t.ioEnable = true)

/-- R410, R403, R418: an interrupt that is latched when an instruction's fetch starts, or an IRQ that latches in its first
cycle, is taken when that instruction has finished, unless the instruction halts the machine. -/
def Obligations.TakenAtFinish : Prop :=
  ∀ s t, AtFetch s → step s = .next t →
    (s.istat ≠ .none → t.istat = s.istat ∧ (t.phase = .interrupt ∨ t.phase = .halt)) ∧
      (s.istat = .none → s.flags.i = false → (linesAt s 1).irq = true →
        t.istat = .irq ∧ (t.phase = .interrupt ∨ t.phase = .halt))

/-- R413 to R417, R402, R412: interrupt entry in full: the slot of the vector number given in its second cycle, or the NMI
slot; the flag byte and pc pushed; pc from the slot; the latch cleared for an IRQ, and for an NMI only if
NMI_CLEARS_LATCH; no register and no flag changes; no other byte of memory changes. -/
def Obligations.InterruptEntryPushesAndVectors : Prop :=
  ∀ s bank hi lo, AtInterrupt s → SoleWriter s →
    let slot := if s.istat = .irq then s.cfg.vectorBase + BitVec.ofNat 24 (3 * (linesAt s 2).vector.toNat)
      else s.cfg.nmiVectorAddr
    let frame := [stackByte s s.sp, stackByte s (s.sp + 1), stackByte s (s.sp + 2), stackByte s (s.sp + 3)]
    Reads s slot false (bank.setWidth 16) → Reads s (slot + 1) true (joinWord hi lo) → (∀ a ∈ frame, StoresAt s a) →
    ∃ t, step s = .next t ∧ t.cfg = s.cfg ∧ t.regs = s.regs ∧ t.flags = s.flags ∧
      t.pc = joinAddr bank (joinWord hi lo) ∧ t.scr = t.pc ∧ t.sp = s.sp + 4 ∧
      t.phase = .fetch ∧ t.cyc = 1 ∧ t.fault = none ∧ t.irOp = s.irOp ∧ t.irMeta = s.irMeta ∧
      t.istat = (if s.istat = .irq ∨ s.cfg.nmiClearsLatch = true then .none else .nmi) ∧
      t.busEnable = false ∧ t.ioEnable = false ∧ t.irqAck = false ∧ KeepsIoPorts s t ∧ t.accepted = s.accepted ∧
      frame.map (readByte t) =
        [some (packFlags s.cfg.flagLayout s.flags), some (bankOf s.pc), some (hiByte (segOf s.pc)),
         some (loByte (segOf s.pc))] ∧
      KeepsMemoryBut frame s t

/-- R411, R420: after an interrupt entry, RTI with the stack pointer and the four frame bytes as the entry left them goes
back to the pushed pc with the flags and the stack pointer of before, whatever the handler did otherwise. -/
def Obligations.InterruptThenRtiRestores : Prop :=
  ∀ s t u, AtInterrupt s → SoleWriter s → s.cfg.flagLayout.wf = true →
    let frame := [stackByte s s.sp, stackByte s (s.sp + 1), stackByte s (s.sp + 2), stackByte s (s.sp + 3)]
    (∀ a ∈ frame, RamAt s a) → step s = .next t →
    Ready u → u.cfg = t.cfg → u.sp = t.sp → (∀ a ∈ frame, readByte u a = readByte t a) →
    Completes .rti u (fun v => v.pc = s.pc ∧ v.flags = s.flags ∧ v.sp = s.sp ∧ v.regs = u.regs ∧ NoStore u v)

/-- R460, R461, R343, R344: an IRQ sampled in SEI's Execute cycle is taken at SEI's finish although I is then 1; after CLI
exactly one more instruction runs before a held IRQ is taken. -/
def Obligations.InterruptFlagWindows : Prop :=
  (∀ s, Ready s → s.istat = .none → s.flags.i = false → (linesAt s 1).irq = true →
    Completes .sei s (fun t => t.flags.i = true ∧ t.istat = .irq ∧ t.phase = .interrupt)) ∧
  (∀ s, Ready s → s.istat = .none → s.flags.i = true → ¬((linesAt s 1).nmi = true ∧ s.nmiPrev = false) →
    Completes .cli s (fun t => t.flags.i = false ∧ t.istat = .none ∧ t.phase = .fetch ∧
      ((linesAt t 1).irq = true → ∀ u, step t = .next u → u.istat = .irq ∧ (u.phase = .interrupt ∨ u.phase = .halt))))

/-! ## Reset, halt and recorded faults -/

/-- R42, R450, R455: what reset() leaves, from any state. -/
def Obligations.ResetRegisterValues : Prop :=
  ∀ s : State,
    let t := hostReset s
    t.regs = ⟨0, 0, 0, 0⟩ ∧ t.flags = ⟨false, false, false, false, false, false, false⟩ ∧ t.pc = 0x000000 ∧
      t.sp = s.cfg.spReset ∧ t.phase = .reset ∧ t.cyc = 1 ∧ t.istat = .none ∧ t.nmiPrev = false ∧
      (firstBadRow s.cfg.opcodeTable = none ∧ imageFits s.cfg.platform = true → t.fault = none) ∧
      t.busEnable = false ∧ t.ioEnable = false ∧ t.irqAck = false ∧ t.mem = s.mem ∧ t.accepted = s.accepted ∧
      t.cfg = s.cfg

/-- R454, R451: whatever the state was, after reset() and the Reset sequence pc is the 3-byte value at address 0 and all
registers and flags are 0, also when the machine was halted, faulted or in an interrupt entry. -/
def Obligations.ResetReadsVector : Prop :=
  ∀ s b0 b1 b2, configFault s.cfg = none → SoleWriter s →
    Reads s 0x000000 false (b0.setWidth 16) → Reads s 0x000001 true (joinWord b1 b2) →
    ∃ t, cycles 3 (hostReset s) = .next t ∧ step (hostReset s) = .next t ∧ t.phase = .fetch ∧ t.cyc = 1 ∧
      t.pc = joinAddr b0 (joinWord b1 b2) ∧ t.regs = ⟨0, 0, 0, 0⟩ ∧
      t.flags = ⟨false, false, false, false, false, false, false⟩ ∧ t.sp = s.cfg.spReset ∧ t.fault = none ∧
      KeepsMemory s t

/-- R101, R77, R432, R450: reset() records CONFIG_TABLE for a malformed opcode table, else CONFIG_IMAGE for a ROM image
longer than its device, and the machine then never runs a cycle. That the device's size counts as 0 where no device claims
ROM_BASE, so that every image with a byte is too long, is the model's reading (log entry 11, DEDUCED); which of several
malformed entries is recorded is its choice (log entry 14). -/
def Obligations.ResetRecordsConfigurationFault : Prop :=
  ∀ s : State,
    (∀ op, firstBadRow s.cfg.opcodeTable = some op →
      (hostReset s).fault = some (.configTable op) ∧ step (hostReset s) = .fault (.configTable (hostReset s)) ∧
        cycle (hostReset s) = .fault (.configTable (hostReset s))) ∧
    (firstBadRow s.cfg.opcodeTable = none → romSize s.cfg.platform < s.cfg.platform.image.length →
      (hostReset s).fault = some (.configImage s.cfg.platform.image.length) ∧
        step (hostReset s) = .fault (.configImage (hostReset s)) ∧
        cycle (hostReset s) = .fault (.configImage (hostReset s)))

/-- R120, R433: once a fault is recorded no cycle and no step changes anything. -/
def Obligations.RecordedFaultStops : Prop :=
  ∀ s f, s.fault = some f → step s = .fault (faultOf f s) ∧ cycle s = .fault (faultOf f s) ∧ (faultOf f s).final = s

/-- R365, R435: in Halt any number of cycles runs with no effect but the sampling of the interrupt lines and the enables
driven to 0; the counter stays, no interrupt leaves Halt and a latched one stays latched. -/
def Obligations.HaltIsPermanent : Prop :=
  ∀ n s, s.phase = .halt → s.fault = none → 1 ≤ s.cyc →
    ∃ t, cycles n s = .next t ∧ t.phase = .halt ∧ t.status = .halted ∧ t.cyc = s.cyc ∧ t.regs = s.regs ∧
      t.flags = s.flags ∧ t.pc = s.pc ∧ t.sp = s.sp ∧ t.scr = s.scr ∧ t.accepted = s.accepted ∧
      (SoleWriter s → t.mem = s.mem) ∧
      KeepsEngine s t ∧ KeepsBusPorts s t ∧ KeepsIoPorts s t ∧
      (1 ≤ n → t.busEnable = false ∧ t.ioEnable = false ∧ t.irqAck = false)

/-! ## Instructions: result, flags, frame, completion -/

/-- R200 to R204: ADD, ADDB, SUB, SUBB. -/
def Obligations.AddAndSubtract : Prop :=
  TwoOperandForms 16 .addImm .addReg .addAbs ruleAdd ∧ TwoOperandForms 8 .addbImm .addbReg .addbAbs ruleAdd ∧
    TwoOperandForms 16 .subImm .subReg .subAbs ruleSub ∧ TwoOperandForms 8 .subbImm .subbReg .subbAbs ruleSub

/-- R205 to R208: INC, INCB, DEC, DECB. -/
def Obligations.IncrementAndDecrementKeepCarry : Prop :=
  OneOperandForm 16 .inc ruleInc ∧ OneOperandForm 8 .incb ruleInc ∧
    OneOperandForm 16 .dec ruleDec ∧ OneOperandForm 8 .decb ruleDec

/-- R220 to R228: AND, ANDB, OR, ORB, XOR, XORB, NOT, NOTB. -/
def Obligations.LogicOperationsKeepCarry : Prop :=
  TwoOperandForms 16 .andImm .andReg .andAbs ruleAnd ∧ TwoOperandForms 8 .andbImm .andbReg .andbAbs ruleAnd ∧
    TwoOperandForms 16 .orImm .orReg .orAbs ruleOr ∧ TwoOperandForms 8 .orbImm .orbReg .orbAbs ruleOr ∧
    TwoOperandForms 16 .xorImm .xorReg .xorAbs ruleXor ∧ TwoOperandForms 8 .xorbImm .xorbReg .xorbAbs ruleXor ∧
    OneOperandForm 16 .not ruleNot ∧ OneOperandForm 8 .notb ruleNot

/-- R240 to R248: SHL, SHLB, SHR, SHRB, ROL, ROLB, ROR, RORB. -/
def Obligations.ShiftsAndRotatesByOneBit : Prop :=
  OneOperandForm 16 .shl ruleShl ∧ OneOperandForm 8 .shlb ruleShl ∧
    OneOperandForm 16 .shr ruleShr ∧ OneOperandForm 8 .shrb ruleShr ∧
    OneOperandForm 16 .rol ruleRol ∧ OneOperandForm 8 .rolb ruleRol ∧
    OneOperandForm 16 .ror ruleRor ∧ OneOperandForm 8 .rorb ruleRor

/-- R260 to R262: CMP, CMPB: no register changes; exactly one of Z, LT, GT is 1 afterwards. -/
def Obligations.CompareWritesFlagsOnly : Prop :=
  TwoOperandForms 16 .cmpImm .cmpReg .cmpAbs ruleCmp ∧ TwoOperandForms 8 .cmpbImm .cmpbReg .cmpbAbs ruleCmp ∧
    ∀ (w : Nat) (f : Flags) (a b : BitVec w),
      let g := (ruleCmp f a b).2
      [g.z, g.lt, g.gt].count true = 1

/-- R280 to R282: MOV, MOVB. -/
def Obligations.MoveCopiesTheOperand : Prop :=
  TwoOperandForms 16 .movImm .movReg .movAbs ruleMov ∧ TwoOperandForms 8 .movbImm .movbReg .movbAbs ruleMov

/-- R280, R283, R284: STR, STRB. -/
def Obligations.StoreWritesMemory : Prop := StoreForm true .str ∧ StoreForm false .strb

/-- R300 to R302: PUSH, PUSHB. -/
def Obligations.PushWritesTheStack : Prop := PushForm true .push ∧ PushForm false .pushb

/-- R300, R303, R304: POP, POPB. -/
def Obligations.PopReadsTheStack : Prop := PopForm true .pop ∧ PopForm false .popb

/-- R300: a pop of the width of the push, with sp and the pushed bytes as the push left them, gives the pushed value and the
sp of before. -/
def Obligations.PushThenPopRestores : Prop :=
  ∀ s t u r1 r2, Ready s → SoleWriter s → Ready u → u.cfg = t.cfg → u.sp = t.sp → RamAt s (stackByte s s.sp) →
    (exec (.push r1) s = .next t →
      readByte u (stackByte s s.sp) = readByte t (stackByte s s.sp) →
      readByte u (stackByte s s.sp + 1) = readByte t (stackByte s s.sp + 1) →
      Completes (.pop r2) u (fun v => v.regs = regsWith u r2 (readSel s r1) ∧ v.sp = s.sp ∧ v.flags = u.flags)) ∧
    (exec (.pushb r1) s = .next t →
      readByte u (stackByte s s.sp) = readByte t (stackByte s s.sp) →
      Completes (.popb r2) u (fun v =>
        v.regs = regsWith u r2 ((loByte (readSel s r1)).setWidth 16) ∧ v.sp = s.sp ∧ v.flags = u.flags))

/-- R320, R321, R325 to R334: JMP and the ten conditional branches. -/
def Obligations.JumpsAndBranches : Prop :=
  JumpForm .jmp (fun _ => true) ∧ JumpForm .beq (fun f => f.z) ∧ JumpForm .bne (fun f => !f.z) ∧
    JumpForm .bcs (fun f => f.c) ∧ JumpForm .bcc (fun f => !f.c) ∧ JumpForm .bmi (fun f => f.n) ∧
    JumpForm .bpl (fun f => !f.n) ∧ JumpForm .bvs (fun f => f.v) ∧ JumpForm .bvc (fun f => !f.v) ∧
    JumpForm .blt (fun f => f.lt) ∧ JumpForm .bgt (fun f => f.gt)

/-- R322, R147: JSR pushes the bank, high and low byte of the return address, each wrapping the stack offset, and jumps;
only those three bytes change. -/
def Obligations.CallPushesReturnAddress : Prop :=
  ∀ s m m1 m2 m3 l1 l2 l3, Ready s → SoleWriter s →
    let stack := [stackByte s s.sp, stackByte s (s.sp + 1), stackByte s (s.sp + 2)]
    memWrite s.cfg s.mem (linesAt s 1) (stackByte s s.sp) false ((bankOf s.pc).setWidth 16) = .ok (m1, l1) →
    memWrite s.cfg m1 (linesAt s 2) (stackByte s (s.sp + 1)) false ((hiByte (segOf s.pc)).setWidth 16) = .ok (m2, l2) →
    memWrite s.cfg m2 (linesAt s 3) (stackByte s (s.sp + 2)) false ((loByte (segOf s.pc)).setWidth 16) = .ok (m3, l3) →
    Completes (.jsr m) s (fun t =>
      Effect s t s.regs s.flags (effectiveAddr s m) (s.sp + 3) (effectiveAddr s m) ∧ KeepsIoPorts s t ∧
        t.mem = m3 ∧ t.accepted = l3 ++ l2 ++ l1 ++ s.accepted ∧ KeepsMemoryBut stack s t ∧
        ((∀ a ∈ stack, StoresAt s a) →
          stack.map (readByte t) = [some (bankOf s.pc), some (hiByte (segOf s.pc)), some (loByte (segOf s.pc))]))

/-- R323, R149: RTS. -/
def Obligations.ReturnFromSubroutine : Prop :=
  ∀ s (lo hi bank : Byte), Ready s → SoleWriter s →
    memRead s.cfg s.mem (linesAt s 1) (stackByte s (s.sp - 1)) false = .ok (lo.setWidth 16) →
    memRead s.cfg s.mem (linesAt s 2) (stackByte s (s.sp - 2)) false = .ok (hi.setWidth 16) →
    memRead s.cfg s.mem (linesAt s 3) (stackByte s (s.sp - 3)) false = .ok (bank.setWidth 16) →
    Completes .rts s (fun t =>
      Effect s t s.regs s.flags (joinAddr bank (joinWord hi lo)) (s.sp - 3) (joinAddr bank (joinWord hi lo)) ∧
        NoStore s t ∧ KeepsIoPorts s t)

/-- R324, R149, R420: RTI. -/
def Obligations.ReturnFromInterrupt : Prop :=
  ∀ s (lo hi bank fl : Byte), Ready s → SoleWriter s →
    memRead s.cfg s.mem (linesAt s 1) (stackByte s (s.sp - 1)) false = .ok (lo.setWidth 16) →
    memRead s.cfg s.mem (linesAt s 2) (stackByte s (s.sp - 2)) false = .ok (hi.setWidth 16) →
    memRead s.cfg s.mem (linesAt s 3) (stackByte s (s.sp - 3)) false = .ok (bank.setWidth 16) →
    memRead s.cfg s.mem (linesAt s 4) (stackByte s (s.sp - 4)) false = .ok (fl.setWidth 16) →
    Completes .rti s (fun t =>
      Effect s t s.regs (unpackFlags s.cfg.flagLayout fl) (joinAddr bank (joinWord hi lo)) (s.sp - 4)
          (joinAddr bank (joinWord hi lo)) ∧
        NoStore s t ∧ KeepsIoPorts s t)

/-- R323: RTS after JSR, with sp and the three pushed bytes as JSR left them, goes to the instruction after the JSR and
restores sp. -/
def Obligations.CallThenReturnRestores : Prop :=
  ∀ s t u m, Ready s → SoleWriter s → Ready u → u.cfg = t.cfg → u.sp = t.sp →
    let stack := [stackByte s s.sp, stackByte s (s.sp + 1), stackByte s (s.sp + 2)]
    (∀ a ∈ stack, RamAt s a) → exec (.jsr m) s = .next t → (∀ a ∈ stack, readByte u a = readByte t a) →
    Completes .rts u (fun v => v.pc = s.pc ∧ v.sp = s.sp ∧ v.regs = u.regs ∧ v.flags = u.flags ∧ NoStore u v)

/-- R340 to R345, R363: SEC, CLC, SEI, CLI, CLV write one flag; NOP none; nothing else changes. -/
def Obligations.FlagControlAndNop : Prop :=
  FlagForm .sec (fun f => { f with c := true }) ∧ FlagForm .clc (fun f => { f with c := false }) ∧
    FlagForm .sei (fun f => { f with i := true }) ∧ FlagForm .cli (fun f => { f with i := false }) ∧
    FlagForm .clv (fun f => { f with v := false }) ∧ FlagForm .nop (fun f => f)

/-- R364, R126: HLT goes to Halt, also with an interrupt latched; pc stays after it and nothing else changes. -/
def Obligations.HaltStopsTheEngine : Prop :=
  ∀ s, Ready s → Completes .hlt s (fun t =>
    t.phase = .halt ∧ t.status = .halted ∧ t.cyc = 1 ∧ t.fault = none ∧ t.busEnable = false ∧ t.ioEnable = false ∧
      t.irqAck = false ∧ t.regs = s.regs ∧ t.flags = s.flags ∧ t.pc = s.pc ∧ t.sp = s.sp ∧ t.scr = s.scr ∧
      KeepsEngine s t ∧ NoStore s t ∧ KeepsBusPorts s t ∧ KeepsIoPorts s t)

/-- R360, R361, R148: IN, with the port from the literal or from the low byte of R2 before R1 is written; a port that does
not answer with a value stops it. What a port answers, and the codes, are stated in `ResolutionOrder` (R75, R430). -/
def Obligations.InputReadsThePort : Prop :=
  ∀ s r1, Ready s →
    (∀ port b, ioReadResult s.cfg (linesAt s 1) port = .ok b →
      Completes (.inImm r1 port) s (fun t => InEffect s t r1 port b)) ∧
    (∀ r2 b, ioReadResult s.cfg (linesAt s 1) (loByte (readSel s r2)) = .ok b →
      Completes (.inReg r1 r2) s (fun t => InEffect s t r1 (loByte (readSel s r2)) b)) ∧
    (∀ port f, SoleWriter s → ioReadResult s.cfg (linesAt s 1) port = .error f →
      FaultsWith (exec (.inImm r1 port) s) f (fun t => FaultKeeps s t ∧ t.sp = s.sp)) ∧
    (∀ r2 f, SoleWriter s → ioReadResult s.cfg (linesAt s 1) (loByte (readSel s r2)) = .error f →
      FaultsWith (exec (.inReg r1 r2) s) f (fun t => FaultKeeps s t ∧ t.sp = s.sp))

/-- R360, R362, R148: OUT, as IN; what a port answers is stated in `ResolutionOrder` (R75, R430). -/
def Obligations.OutputWritesThePort : Prop :=
  ∀ s r1, Ready s →
    (∀ port log, ioWriteResult s.cfg (linesAt s 1) port (loByte (readSel s r1)) = .ok log →
      Completes (.outImm r1 port) s (fun t => OutEffect s t r1 port log)) ∧
    (∀ r2 log, ioWriteResult s.cfg (linesAt s 1) (loByte (readSel s r2)) (loByte (readSel s r1)) = .ok log →
      Completes (.outReg r1 r2) s (fun t => OutEffect s t r1 (loByte (readSel s r2)) log)) ∧
    (∀ port f, SoleWriter s → ioWriteResult s.cfg (linesAt s 1) port (loByte (readSel s r1)) = .error f →
      FaultsWith (exec (.outImm r1 port) s) f (fun t => FaultKeeps s t ∧ t.sp = s.sp)) ∧
    (∀ r2 f, SoleWriter s → ioWriteResult s.cfg (linesAt s 1) (loByte (readSel s r2)) (loByte (readSel s r1)) = .error f →
      FaultsWith (exec (.outReg r1 r2) s) f (fun t => FaultKeeps s t ∧ t.sp = s.sp))

/-- R431, R142: an operand read that faults delivers no data: no register and no flag changes, for every Absolute form that
reads its operand. -/
def Obligations.LoadFaultsKeepRegisters : Prop :=
  LoadFaultForm true .addAbs ∧ LoadFaultForm false .addbAbs ∧ LoadFaultForm true .subAbs ∧
    LoadFaultForm false .subbAbs ∧ LoadFaultForm true .andAbs ∧ LoadFaultForm false .andbAbs ∧
    LoadFaultForm true .orAbs ∧ LoadFaultForm false .orbAbs ∧ LoadFaultForm true .xorAbs ∧
    LoadFaultForm false .xorbAbs ∧ LoadFaultForm true .cmpAbs ∧ LoadFaultForm false .cmpbAbs ∧
    LoadFaultForm true .movAbs ∧ LoadFaultForm false .movbAbs

/-- R431, R433: a store, push or pop that faults changes no byte of memory and no register; the stack pointer has already
moved by what its cycle wrote (log entry 13). In JSR, RTS, RTI and interrupt entry any of the transactions may be the one
that faults: what the cycles before it wrote stands. -/
def Obligations.StoreAndStackFaultsKeepMemory : Prop :=
  (∀ s r1 m f, Ready s → SoleWriter s →
    (memWrite s.cfg s.mem (linesAt s 1) (effectiveAddr s m) true (readSel s r1) = .error f →
      FaultsWith (exec (.str r1 m) s) f (fun t => FaultKeeps s t ∧ t.sp = s.sp)) ∧
    (memWrite s.cfg s.mem (linesAt s 1) (effectiveAddr s m) false ((loByte (readSel s r1)).setWidth 16) = .error f →
      FaultsWith (exec (.strb r1 m) s) f (fun t => FaultKeeps s t ∧ t.sp = s.sp)) ∧
    (memWrite s.cfg s.mem (linesAt s 1) (stackByte s s.sp) true (readSel s r1) = .error f →
      FaultsWith (exec (.push r1) s) f (fun t => FaultKeeps s t ∧ t.sp = s.sp + 2)) ∧
    (memWrite s.cfg s.mem (linesAt s 1) (stackByte s s.sp) false ((loByte (readSel s r1)).setWidth 16) = .error f →
      FaultsWith (exec (.pushb r1) s) f (fun t => FaultKeeps s t ∧ t.sp = s.sp + 1)) ∧
    (memRead s.cfg s.mem (linesAt s 1) (stackByte s (s.sp - 2)) true = .error f →
      FaultsWith (exec (.pop r1) s) f (fun t => FaultKeeps s t ∧ t.sp = s.sp - 2)) ∧
    (memRead s.cfg s.mem (linesAt s 1) (stackByte s (s.sp - 1)) false = .error f →
      FaultsWith (exec (.popb r1) s) f (fun t => FaultKeeps s t ∧ t.sp = s.sp - 1))) ∧
    CallFaultForm ∧ ReturnFaultForm ∧ EntryFaultForm
end

