-- ==== Sys2Proof/Laws/Memory.lean ====
section
/-! SUPPORT. Memory: read after write, the canonical form kept by every memory operation (spec 20_memory.md R67, R74, R80). -/

namespace Sys2Proof.Laws

open Sys2Proof.Machine

/-! ## Cells -/

theorem lookupCell_insertCell (k j : Nat) (v : Byte) (m : Memory) :
    lookupCell j (insertCell k v m) = if j = k then some v else lookupCell j m := by
  induction m with
  | nil => simp [insertCell, lookupCell, eq_comm]
  | cons c rest ih =>
    obtain ⟨k', b⟩ := c
    simp only [insertCell]
    split
    · simp only [lookupCell, eq_comm]
    · split
      · rename_i h
        subst h
        simp only [lookupCell]
        split <;> rename_i h1
        · simp [h1]
        · simp [Ne.symm h1]
      · rename_i h1 h2
        simp only [lookupCell, ih]
        split
        · rename_i h3
          subst h3
          simp [Ne.symm h2]
        · rfl

theorem lookupCell_eraseCell (k j : Nat) (m : Memory) :
    lookupCell j (eraseCell k m) = if j = k then none else lookupCell j m := by
  induction m with
  | nil => simp [eraseCell, lookupCell]
  | cons c rest ih =>
    obtain ⟨k', b⟩ := c
    simp only [eraseCell, List.filter_cons] at ih ⊢
    by_cases h : k' = k
    · subst h
      simp only [bne_self_eq_false, Bool.false_eq_true, if_false, lookupCell, ih]
      split <;> simp_all [eq_comm]
    · simp only [bne_iff_ne, ne_eq, h, not_false_eq_true, if_true, lookupCell, ih]
      split
      · rename_i h2
        subst h2
        simp [h]
      · rfl

theorem mem_insertCell {k : Nat} {v : Byte} {m : Memory} {c : Host.Cell} (h : c ∈ insertCell k v m) :
    c = (k, v) ∨ c ∈ m := by
  induction m with
  | nil => simpa [insertCell] using h
  | cons c' rest ih =>
    simp only [insertCell] at h
    split at h
    · simpa using h
    · split at h
      · rcases List.mem_cons.mp h with h | h
        · exact .inl h
        · exact .inr (List.mem_cons_of_mem _ h)
      · rcases List.mem_cons.mp h with h | h
        · exact .inr (h ▸ List.mem_cons_self ..)
        · exact (ih h).imp id (List.mem_cons_of_mem _)

theorem insertCell_rising {k : Nat} {v : Byte} {m : Memory} (h : m.Pairwise (fun x y => x.1 < y.1)) :
    (insertCell k v m).Pairwise (fun x y => x.1 < y.1) := by
  induction m with
  | nil => simp [insertCell]
  | cons c rest ih =>
    obtain ⟨k', b⟩ := c
    obtain ⟨h1, h2⟩ := List.pairwise_cons.mp h
    simp only [insertCell]
    split
    · rename_i hk
      refine List.pairwise_cons.mpr ⟨fun c hc => ?_, h⟩
      rcases List.mem_cons.mp hc with rfl | hc
      · exact hk
      · exact lt_trans hk (h1 c hc)
    · split
      · rename_i _ hk
        subst hk
        exact List.pairwise_cons.mpr ⟨h1, h2⟩
      · rename_i hk hk'
        refine List.pairwise_cons.mpr ⟨fun c hc => ?_, ih h2⟩
        rcases mem_insertCell hc with rfl | hc
        · exact lt_of_le_of_ne (not_lt.mp hk) (Ne.symm hk')
        · exact h1 c hc

/-! ## Bytes -/

/-- A byte just written reads back; every other byte reads as before (R67, R80). -/
theorem readCell_writeCell (p : Platform) (m : Memory) (a b : Addr) (v : Byte) :
    readCell p (writeCell p m a v) b = if b = a then some v else readCell p m b := by
  have hab : b.toNat = a.toNat ↔ b = a := BitVec.toNat_inj
  unfold readCell writeCell
  by_cases hu : unlisted p a = some v
  · simp only [hu, if_true, lookupCell_eraseCell, hab]
    by_cases h : b = a
    · simp [h, hu]
    · simp [h]
  · simp only [hu, if_false, lookupCell_insertCell, hab]
    by_cases h : b = a <;> simp [h]

/-- A byte write keeps the canonical form. -/
theorem writeCell_wf {p : Platform} {m : Memory} (h : Memory.wf p m) (a : Addr) (v : Byte) :
    Memory.wf p (writeCell p m a v) := by
  unfold writeCell
  split
  · refine ⟨h.1.sublist List.filter_sublist, fun c hc => h.2 c ?_⟩
    exact (List.mem_filter.mp hc).1
  · rename_i hu
    refine ⟨insertCell_rising h.1, fun c hc => ?_⟩
    rcases mem_insertCell hc with rfl | hc
    · exact ⟨a.isLt, by simpa using hu⟩
    · exact h.2 c hc

/-- A write of consecutive bytes keeps the canonical form. -/
theorem writeBytes_wf {p : Platform} {m : Memory} (h : Memory.wf p m) (a : Addr) (bs : List Byte) :
    Memory.wf p (writeBytes p m a bs) := by
  induction bs generalizing m a with
  | nil => exact h
  | cons b rest ih => exact ih (writeCell_wf h a b) (a + 1)

/-- The empty memory is canonical. -/
theorem nil_wf (p : Platform) : Memory.wf p [] := ⟨List.Pairwise.nil, by simp⟩

/-- Writes of other bus owners keep the canonical form (R85). -/
theorem externalWrites_wf {p : Platform} {m : Memory} (h : Memory.wf p m) (ws : List (Addr × Byte)) :
    Memory.wf p (externalWrites p m ws) := by
  induction ws generalizing m with
  | nil => exact h
  | cons w rest ih =>
    obtain ⟨a, b⟩ := w
    simp only [externalWrites]
    refine ih ?_
    split
    · split
      · exact writeCell_wf h a b
      · exact h
    · exact h

/-- A read succeeds exactly with a value of the requested width (R74). -/
theorem readOutcome_ok {place : BusPlace} {wide : Bool} {r : DeviceResult} {v : Word} :
    readOutcome place wide r = .ok v ↔
      (wide = false ∧ ∃ b, r = .value8 b ∧ v = b.setWidth 16) ∨ (wide = true ∧ r = .value16 v) := by
  cases r <;> cases wide <;> simp [readOutcome, eq_comm]

/-- A write that no memory stores succeeds exactly with `done`, and the device has then accepted it (R74). -/
theorem writeOutcome_ok {place : BusPlace} {taken : Accepted} {r : DeviceResult} {log : List Accepted} :
    writeOutcome place taken r = .ok log ↔ r = .done ∧ log = [taken] := by
  cases r <;> simp [writeOutcome, eq_comm]

/-- A successful memory read has a first claiming device, and a word read stays inside it (R74). -/
theorem memRead_ok {c : Config} {m : Memory} {l : Lines} {a : Addr} {wide : Bool} {v : Word}
    (h : memRead c m l a wide = .ok v) :
    ∃ d, firstDevice c.platform a = some d ∧ (wide = true → claims d (a + 1) = true) ∧
      readOutcome (.mem a) wide (deviceRead c m l d a wide) = .ok v := by
  unfold memRead at h
  split at h
  · simp at h
  · rename_i d hd
    split at h
    · simp at h
    · rename_i hw
      exact ⟨d, hd, by simpa using hw, h⟩

/-- A byte read answers a byte in data[7:0] with data[15:8] = 0 (R67). -/
theorem memRead_byte {c : Config} {m : Memory} {l : Lines} {a : Addr} {v : Word} (h : memRead c m l a false = .ok v) :
    ∃ b : Byte, v = b.setWidth 16 := by
  obtain ⟨d, -, -, h⟩ := memRead_ok h
  obtain ⟨-, b, -, hb⟩ | ⟨h', -⟩ := readOutcome_ok.mp h
  · exact ⟨b, hb⟩
  · simp at h'

/-- An accepted IO write is the one the first device of that port answers with `done` (R75). -/
theorem ioWriteResult_ok {c : Config} {l : Lines} {port value : Byte} {log : List Accepted}
    (h : ioWriteResult c l port value = .ok log) :
    log = [.io port value] ∧ ∃ d, firstIoDevice c.platform port = some d ∧
      ioAnswer (ioRulesIn l.ioWrites d.onWrite) port (some value) = .done := by
  unfold ioWriteResult at h
  split at h
  · simp at h
  · rename_i d hd
    obtain ⟨h1, h2⟩ := writeOutcome_ok.mp h
    exact ⟨h2, d, hd, h1⟩

/-- An answered IO read is the byte that the first device of that port answers (R75). -/
theorem ioReadResult_ok {c : Config} {l : Lines} {port b : Byte} (h : ioReadResult c l port = .ok b) :
    ∃ d, firstIoDevice c.platform port = some d ∧ ioAnswer (ioRulesIn l.ioReads d.onRead) port none = .value8 b := by
  unfold ioReadResult at h
  split at h
  · simp at h
  · rename_i d hd
    split at h
    · rename_i v hv
      obtain ⟨-, b', hb, rfl⟩ | ⟨h', -⟩ := readOutcome_ok.mp hv
      · refine ⟨d, hd, hb.trans ?_⟩
        have : loByte (b'.setWidth 16) = b := by simpa using h
        rw [← this]
        simp [loByte, BitVec.extractLsb'_setWidth_of_le]
      · simp at h'
    · simp at h

/-- A write answered by rules leaves memory as it is (R74). -/
theorem deviceWrite_mem {m m' : Memory} {rs : List BusRule} {a : Addr} {wide : Bool} {v : Word} {log : List Accepted}
    (h : deviceWrite m rs a wide v = .ok (m', log)) : m' = m := by
  unfold deviceWrite at h
  split at h <;> simp only [Except.ok.injEq, Prod.mk.injEq, reduceCtorEq] at h
  exact h.1.symm

/-- What a successful memory write does (R74): the first claiming device stores the bytes, or memory stays as it is. -/
theorem memWrite_ok {c : Config} {m m' : Memory} {l : Lines} {a : Addr} {wide : Bool} {v : Word} {log : List Accepted}
    (h : memWrite c m l a wide v = .ok (m', log)) :
    (m' = writeBytes c.platform m a (if wide then [hiByte v, loByte v] else [loByte v]) ∧ log = [] ∧
      ∃ d, firstDevice c.platform a = some d ∧ d.onWrite = .store ∧ (wide = true → claims d (a + 1) = true)) ∨ m' = m := by
  unfold memWrite at h
  split at h
  · simp at h
  · rename_i d hd
    split at h
    · simp at h
    · rename_i hw
      split at h
      · rename_i ho
        simp only [Except.ok.injEq, Prod.mk.injEq] at h
        exact .inl ⟨h.1.symm, h.2.symm, d, hd, ho, by simpa using hw⟩
      · exact .inr (deviceWrite_mem h)
      · exact .inr (deviceWrite_mem h)

/-- A resolved memory write keeps the canonical form (R74). -/
theorem memWrite_wf {c : Config} {m m' : Memory} {l : Lines} {a : Addr} {wide : Bool} {v : Word} {log : List Accepted}
    (h : Memory.wf c.platform m) (hw : memWrite c m l a wide v = .ok (m', log)) : Memory.wf c.platform m' := by
  rcases memWrite_ok hw with ⟨rfl, -⟩ | rfl
  · exact writeBytes_wf h _ _
  · exact h

/-- The loaded ROM image is canonical (R77). -/
theorem loadImage_wf (p : Platform) : Memory.wf p (loadImage p) := writeBytes_wf (nil_wf p) _ _

/-- Placing an instruction for the fetch keeps the canonical form. -/
theorem withFetchWord_wf {s : State} (h : Memory.wf s.cfg.platform s.mem) (nbits w : Nat) :
    Memory.wf (s.withFetchWord nbits w).cfg.platform (s.withFetchWord nbits w).mem :=
  writeBytes_wf h _ _

end Sys2Proof.Laws
end

