-- ==== Sys2Proof/Laws/State.lean ====
section
/-! SUPPORT. One lemma per state field for each named update of the state: what the update leaves there. -/

namespace Sys2Proof.Laws

open Sys2Proof.Machine

/-! A raised fault changes the fault register only (R9). -/

@[simp] theorem raise_cfg (f : FaultReg) (s : State) : (raise f s).cfg = s.cfg := rfl
@[simp] theorem raise_regs (f : FaultReg) (s : State) : (raise f s).regs = s.regs := rfl
@[simp] theorem raise_flags (f : FaultReg) (s : State) : (raise f s).flags = s.flags := rfl
@[simp] theorem raise_pc (f : FaultReg) (s : State) : (raise f s).pc = s.pc := rfl
@[simp] theorem raise_sp (f : FaultReg) (s : State) : (raise f s).sp = s.sp := rfl
@[simp] theorem raise_phase (f : FaultReg) (s : State) : (raise f s).phase = s.phase := rfl
@[simp] theorem raise_cyc (f : FaultReg) (s : State) : (raise f s).cyc = s.cyc := rfl
@[simp] theorem raise_irOp (f : FaultReg) (s : State) : (raise f s).irOp = s.irOp := rfl
@[simp] theorem raise_irMeta (f : FaultReg) (s : State) : (raise f s).irMeta = s.irMeta := rfl
@[simp] theorem raise_word (f : FaultReg) (s : State) : (raise f s).word = s.word := rfl
@[simp] theorem raise_istat (f : FaultReg) (s : State) : (raise f s).istat = s.istat := rfl
@[simp] theorem raise_nmiPrev (f : FaultReg) (s : State) : (raise f s).nmiPrev = s.nmiPrev := rfl
@[simp] theorem raise_scr (f : FaultReg) (s : State) : (raise f s).scr = s.scr := rfl
@[simp] theorem raise_fault (f : FaultReg) (s : State) : (raise f s).fault = some f := rfl
@[simp] theorem raise_busEnable (f : FaultReg) (s : State) : (raise f s).busEnable = s.busEnable := rfl
@[simp] theorem raise_address (f : FaultReg) (s : State) : (raise f s).address = s.address := rfl
@[simp] theorem raise_rw (f : FaultReg) (s : State) : (raise f s).rw = s.rw := rfl
@[simp] theorem raise_data (f : FaultReg) (s : State) : (raise f s).data = s.data := rfl
@[simp] theorem raise_ioEnable (f : FaultReg) (s : State) : (raise f s).ioEnable = s.ioEnable := rfl
@[simp] theorem raise_ioAddress (f : FaultReg) (s : State) : (raise f s).ioAddress = s.ioAddress := rfl
@[simp] theorem raise_ioRw (f : FaultReg) (s : State) : (raise f s).ioRw = s.ioRw := rfl
@[simp] theorem raise_ioData (f : FaultReg) (s : State) : (raise f s).ioData = s.ioData := rfl
@[simp] theorem raise_irqAck (f : FaultReg) (s : State) : (raise f s).irqAck = s.irqAck := rfl
@[simp] theorem raise_lines (f : FaultReg) (s : State) : (raise f s).lines = s.lines := rfl
@[simp] theorem raise_stim (f : FaultReg) (s : State) : (raise f s).stim = s.stim := rfl
@[simp] theorem raise_mem (f : FaultReg) (s : State) : (raise f s).mem = s.mem := rfl
@[simp] theorem raise_accepted (f : FaultReg) (s : State) : (raise f s).accepted = s.accepted := rfl

/-! A read request drives the memory bus outputs (R121). -/

@[simp] theorem busRead_cfg (a : Addr) (wide : Bool) (s : State) : (busRead a wide s).cfg = s.cfg := rfl
@[simp] theorem busRead_regs (a : Addr) (wide : Bool) (s : State) : (busRead a wide s).regs = s.regs := rfl
@[simp] theorem busRead_flags (a : Addr) (wide : Bool) (s : State) : (busRead a wide s).flags = s.flags := rfl
@[simp] theorem busRead_pc (a : Addr) (wide : Bool) (s : State) : (busRead a wide s).pc = s.pc := rfl
@[simp] theorem busRead_sp (a : Addr) (wide : Bool) (s : State) : (busRead a wide s).sp = s.sp := rfl
@[simp] theorem busRead_phase (a : Addr) (wide : Bool) (s : State) : (busRead a wide s).phase = s.phase := rfl
@[simp] theorem busRead_cyc (a : Addr) (wide : Bool) (s : State) : (busRead a wide s).cyc = s.cyc := rfl
@[simp] theorem busRead_irOp (a : Addr) (wide : Bool) (s : State) : (busRead a wide s).irOp = s.irOp := rfl
@[simp] theorem busRead_irMeta (a : Addr) (wide : Bool) (s : State) : (busRead a wide s).irMeta = s.irMeta := rfl
@[simp] theorem busRead_word (a : Addr) (wide : Bool) (s : State) : (busRead a wide s).word = wide := rfl
@[simp] theorem busRead_istat (a : Addr) (wide : Bool) (s : State) : (busRead a wide s).istat = s.istat := rfl
@[simp] theorem busRead_nmiPrev (a : Addr) (wide : Bool) (s : State) : (busRead a wide s).nmiPrev = s.nmiPrev := rfl
@[simp] theorem busRead_scr (a : Addr) (wide : Bool) (s : State) : (busRead a wide s).scr = s.scr := rfl
@[simp] theorem busRead_fault (a : Addr) (wide : Bool) (s : State) : (busRead a wide s).fault = s.fault := rfl
@[simp] theorem busRead_busEnable (a : Addr) (wide : Bool) (s : State) : (busRead a wide s).busEnable = true := rfl
@[simp] theorem busRead_address (a : Addr) (wide : Bool) (s : State) : (busRead a wide s).address = a := rfl
@[simp] theorem busRead_rw (a : Addr) (wide : Bool) (s : State) : (busRead a wide s).rw = false := rfl
@[simp] theorem busRead_data (a : Addr) (wide : Bool) (s : State) : (busRead a wide s).data = s.data := rfl
@[simp] theorem busRead_ioEnable (a : Addr) (wide : Bool) (s : State) : (busRead a wide s).ioEnable = s.ioEnable := rfl
@[simp] theorem busRead_ioAddress (a : Addr) (wide : Bool) (s : State) : (busRead a wide s).ioAddress = s.ioAddress := rfl
@[simp] theorem busRead_ioRw (a : Addr) (wide : Bool) (s : State) : (busRead a wide s).ioRw = s.ioRw := rfl
@[simp] theorem busRead_ioData (a : Addr) (wide : Bool) (s : State) : (busRead a wide s).ioData = s.ioData := rfl
@[simp] theorem busRead_irqAck (a : Addr) (wide : Bool) (s : State) : (busRead a wide s).irqAck = s.irqAck := rfl
@[simp] theorem busRead_lines (a : Addr) (wide : Bool) (s : State) : (busRead a wide s).lines = s.lines := rfl
@[simp] theorem busRead_stim (a : Addr) (wide : Bool) (s : State) : (busRead a wide s).stim = s.stim := rfl
@[simp] theorem busRead_mem (a : Addr) (wide : Bool) (s : State) : (busRead a wide s).mem = s.mem := rfl
@[simp] theorem busRead_accepted (a : Addr) (wide : Bool) (s : State) : (busRead a wide s).accepted = s.accepted := rfl

/-! A write request drives the memory bus outputs and the data lane (R121). -/

@[simp] theorem busWrite_cfg (a : Addr) (wide : Bool) (v : Word) (s : State) : (busWrite a wide v s).cfg = s.cfg := rfl
@[simp] theorem busWrite_regs (a : Addr) (wide : Bool) (v : Word) (s : State) : (busWrite a wide v s).regs = s.regs := rfl
@[simp] theorem busWrite_flags (a : Addr) (wide : Bool) (v : Word) (s : State) : (busWrite a wide v s).flags = s.flags := rfl
@[simp] theorem busWrite_pc (a : Addr) (wide : Bool) (v : Word) (s : State) : (busWrite a wide v s).pc = s.pc := rfl
@[simp] theorem busWrite_sp (a : Addr) (wide : Bool) (v : Word) (s : State) : (busWrite a wide v s).sp = s.sp := rfl
@[simp] theorem busWrite_phase (a : Addr) (wide : Bool) (v : Word) (s : State) : (busWrite a wide v s).phase = s.phase := rfl
@[simp] theorem busWrite_cyc (a : Addr) (wide : Bool) (v : Word) (s : State) : (busWrite a wide v s).cyc = s.cyc := rfl
@[simp] theorem busWrite_irOp (a : Addr) (wide : Bool) (v : Word) (s : State) : (busWrite a wide v s).irOp = s.irOp := rfl
@[simp] theorem busWrite_irMeta (a : Addr) (wide : Bool) (v : Word) (s : State) : (busWrite a wide v s).irMeta = s.irMeta := rfl
@[simp] theorem busWrite_word (a : Addr) (wide : Bool) (v : Word) (s : State) : (busWrite a wide v s).word = wide := rfl
@[simp] theorem busWrite_istat (a : Addr) (wide : Bool) (v : Word) (s : State) : (busWrite a wide v s).istat = s.istat := rfl
@[simp] theorem busWrite_nmiPrev (a : Addr) (wide : Bool) (v : Word) (s : State) : (busWrite a wide v s).nmiPrev = s.nmiPrev := rfl
@[simp] theorem busWrite_scr (a : Addr) (wide : Bool) (v : Word) (s : State) : (busWrite a wide v s).scr = s.scr := rfl
@[simp] theorem busWrite_fault (a : Addr) (wide : Bool) (v : Word) (s : State) : (busWrite a wide v s).fault = s.fault := rfl
@[simp] theorem busWrite_busEnable (a : Addr) (wide : Bool) (v : Word) (s : State) : (busWrite a wide v s).busEnable = true := rfl
@[simp] theorem busWrite_address (a : Addr) (wide : Bool) (v : Word) (s : State) : (busWrite a wide v s).address = a := rfl
@[simp] theorem busWrite_rw (a : Addr) (wide : Bool) (v : Word) (s : State) : (busWrite a wide v s).rw = true := rfl
@[simp] theorem busWrite_data (a : Addr) (wide : Bool) (v : Word) (s : State) : (busWrite a wide v s).data = if wide then v else (loByte v).setWidth 16 := rfl
@[simp] theorem busWrite_ioEnable (a : Addr) (wide : Bool) (v : Word) (s : State) : (busWrite a wide v s).ioEnable = s.ioEnable := rfl
@[simp] theorem busWrite_ioAddress (a : Addr) (wide : Bool) (v : Word) (s : State) : (busWrite a wide v s).ioAddress = s.ioAddress := rfl
@[simp] theorem busWrite_ioRw (a : Addr) (wide : Bool) (v : Word) (s : State) : (busWrite a wide v s).ioRw = s.ioRw := rfl
@[simp] theorem busWrite_ioData (a : Addr) (wide : Bool) (v : Word) (s : State) : (busWrite a wide v s).ioData = s.ioData := rfl
@[simp] theorem busWrite_irqAck (a : Addr) (wide : Bool) (v : Word) (s : State) : (busWrite a wide v s).irqAck = s.irqAck := rfl
@[simp] theorem busWrite_lines (a : Addr) (wide : Bool) (v : Word) (s : State) : (busWrite a wide v s).lines = s.lines := rfl
@[simp] theorem busWrite_stim (a : Addr) (wide : Bool) (v : Word) (s : State) : (busWrite a wide v s).stim = s.stim := rfl
@[simp] theorem busWrite_mem (a : Addr) (wide : Bool) (v : Word) (s : State) : (busWrite a wide v s).mem = s.mem := rfl
@[simp] theorem busWrite_accepted (a : Addr) (wide : Bool) (v : Word) (s : State) : (busWrite a wide v s).accepted = s.accepted := rfl

/-! An IO read request drives the IO bus outputs (R122). -/

@[simp] theorem ioRead_cfg (port : Byte) (s : State) : (ioRead port s).cfg = s.cfg := rfl
@[simp] theorem ioRead_regs (port : Byte) (s : State) : (ioRead port s).regs = s.regs := rfl
@[simp] theorem ioRead_flags (port : Byte) (s : State) : (ioRead port s).flags = s.flags := rfl
@[simp] theorem ioRead_pc (port : Byte) (s : State) : (ioRead port s).pc = s.pc := rfl
@[simp] theorem ioRead_sp (port : Byte) (s : State) : (ioRead port s).sp = s.sp := rfl
@[simp] theorem ioRead_phase (port : Byte) (s : State) : (ioRead port s).phase = s.phase := rfl
@[simp] theorem ioRead_cyc (port : Byte) (s : State) : (ioRead port s).cyc = s.cyc := rfl
@[simp] theorem ioRead_irOp (port : Byte) (s : State) : (ioRead port s).irOp = s.irOp := rfl
@[simp] theorem ioRead_irMeta (port : Byte) (s : State) : (ioRead port s).irMeta = s.irMeta := rfl
@[simp] theorem ioRead_word (port : Byte) (s : State) : (ioRead port s).word = s.word := rfl
@[simp] theorem ioRead_istat (port : Byte) (s : State) : (ioRead port s).istat = s.istat := rfl
@[simp] theorem ioRead_nmiPrev (port : Byte) (s : State) : (ioRead port s).nmiPrev = s.nmiPrev := rfl
@[simp] theorem ioRead_scr (port : Byte) (s : State) : (ioRead port s).scr = s.scr := rfl
@[simp] theorem ioRead_fault (port : Byte) (s : State) : (ioRead port s).fault = s.fault := rfl
@[simp] theorem ioRead_busEnable (port : Byte) (s : State) : (ioRead port s).busEnable = s.busEnable := rfl
@[simp] theorem ioRead_address (port : Byte) (s : State) : (ioRead port s).address = s.address := rfl
@[simp] theorem ioRead_rw (port : Byte) (s : State) : (ioRead port s).rw = s.rw := rfl
@[simp] theorem ioRead_data (port : Byte) (s : State) : (ioRead port s).data = s.data := rfl
@[simp] theorem ioRead_ioEnable (port : Byte) (s : State) : (ioRead port s).ioEnable = true := rfl
@[simp] theorem ioRead_ioAddress (port : Byte) (s : State) : (ioRead port s).ioAddress = port := rfl
@[simp] theorem ioRead_ioRw (port : Byte) (s : State) : (ioRead port s).ioRw = false := rfl
@[simp] theorem ioRead_ioData (port : Byte) (s : State) : (ioRead port s).ioData = s.ioData := rfl
@[simp] theorem ioRead_irqAck (port : Byte) (s : State) : (ioRead port s).irqAck = s.irqAck := rfl
@[simp] theorem ioRead_lines (port : Byte) (s : State) : (ioRead port s).lines = s.lines := rfl
@[simp] theorem ioRead_stim (port : Byte) (s : State) : (ioRead port s).stim = s.stim := rfl
@[simp] theorem ioRead_mem (port : Byte) (s : State) : (ioRead port s).mem = s.mem := rfl
@[simp] theorem ioRead_accepted (port : Byte) (s : State) : (ioRead port s).accepted = s.accepted := rfl

/-! An IO write request drives the IO bus outputs (R122). -/

@[simp] theorem ioWrite_cfg (port v : Byte) (s : State) : (ioWrite port v s).cfg = s.cfg := rfl
@[simp] theorem ioWrite_regs (port v : Byte) (s : State) : (ioWrite port v s).regs = s.regs := rfl
@[simp] theorem ioWrite_flags (port v : Byte) (s : State) : (ioWrite port v s).flags = s.flags := rfl
@[simp] theorem ioWrite_pc (port v : Byte) (s : State) : (ioWrite port v s).pc = s.pc := rfl
@[simp] theorem ioWrite_sp (port v : Byte) (s : State) : (ioWrite port v s).sp = s.sp := rfl
@[simp] theorem ioWrite_phase (port v : Byte) (s : State) : (ioWrite port v s).phase = s.phase := rfl
@[simp] theorem ioWrite_cyc (port v : Byte) (s : State) : (ioWrite port v s).cyc = s.cyc := rfl
@[simp] theorem ioWrite_irOp (port v : Byte) (s : State) : (ioWrite port v s).irOp = s.irOp := rfl
@[simp] theorem ioWrite_irMeta (port v : Byte) (s : State) : (ioWrite port v s).irMeta = s.irMeta := rfl
@[simp] theorem ioWrite_word (port v : Byte) (s : State) : (ioWrite port v s).word = s.word := rfl
@[simp] theorem ioWrite_istat (port v : Byte) (s : State) : (ioWrite port v s).istat = s.istat := rfl
@[simp] theorem ioWrite_nmiPrev (port v : Byte) (s : State) : (ioWrite port v s).nmiPrev = s.nmiPrev := rfl
@[simp] theorem ioWrite_scr (port v : Byte) (s : State) : (ioWrite port v s).scr = s.scr := rfl
@[simp] theorem ioWrite_fault (port v : Byte) (s : State) : (ioWrite port v s).fault = s.fault := rfl
@[simp] theorem ioWrite_busEnable (port v : Byte) (s : State) : (ioWrite port v s).busEnable = s.busEnable := rfl
@[simp] theorem ioWrite_address (port v : Byte) (s : State) : (ioWrite port v s).address = s.address := rfl
@[simp] theorem ioWrite_rw (port v : Byte) (s : State) : (ioWrite port v s).rw = s.rw := rfl
@[simp] theorem ioWrite_data (port v : Byte) (s : State) : (ioWrite port v s).data = s.data := rfl
@[simp] theorem ioWrite_ioEnable (port v : Byte) (s : State) : (ioWrite port v s).ioEnable = true := rfl
@[simp] theorem ioWrite_ioAddress (port v : Byte) (s : State) : (ioWrite port v s).ioAddress = port := rfl
@[simp] theorem ioWrite_ioRw (port v : Byte) (s : State) : (ioWrite port v s).ioRw = true := rfl
@[simp] theorem ioWrite_ioData (port v : Byte) (s : State) : (ioWrite port v s).ioData = v := rfl
@[simp] theorem ioWrite_irqAck (port v : Byte) (s : State) : (ioWrite port v s).irqAck = s.irqAck := rfl
@[simp] theorem ioWrite_lines (port v : Byte) (s : State) : (ioWrite port v s).lines = s.lines := rfl
@[simp] theorem ioWrite_stim (port v : Byte) (s : State) : (ioWrite port v s).stim = s.stim := rfl
@[simp] theorem ioWrite_mem (port v : Byte) (s : State) : (ioWrite port v s).mem = s.mem := rfl
@[simp] theorem ioWrite_accepted (port v : Byte) (s : State) : (ioWrite port v s).accepted = s.accepted := rfl

/-! A byte push requests a write at SA(sp) and steps sp (R31). -/

@[simp] theorem pushByte_cfg (v : Byte) (s : State) : (pushByte v s).cfg = s.cfg := rfl
@[simp] theorem pushByte_regs (v : Byte) (s : State) : (pushByte v s).regs = s.regs := rfl
@[simp] theorem pushByte_flags (v : Byte) (s : State) : (pushByte v s).flags = s.flags := rfl
@[simp] theorem pushByte_pc (v : Byte) (s : State) : (pushByte v s).pc = s.pc := rfl
@[simp] theorem pushByte_sp (v : Byte) (s : State) : (pushByte v s).sp = s.sp + 1 := rfl
@[simp] theorem pushByte_phase (v : Byte) (s : State) : (pushByte v s).phase = s.phase := rfl
@[simp] theorem pushByte_cyc (v : Byte) (s : State) : (pushByte v s).cyc = s.cyc := rfl
@[simp] theorem pushByte_irOp (v : Byte) (s : State) : (pushByte v s).irOp = s.irOp := rfl
@[simp] theorem pushByte_irMeta (v : Byte) (s : State) : (pushByte v s).irMeta = s.irMeta := rfl
@[simp] theorem pushByte_word (v : Byte) (s : State) : (pushByte v s).word = false := rfl
@[simp] theorem pushByte_istat (v : Byte) (s : State) : (pushByte v s).istat = s.istat := rfl
@[simp] theorem pushByte_nmiPrev (v : Byte) (s : State) : (pushByte v s).nmiPrev = s.nmiPrev := rfl
@[simp] theorem pushByte_scr (v : Byte) (s : State) : (pushByte v s).scr = s.scr := rfl
@[simp] theorem pushByte_fault (v : Byte) (s : State) : (pushByte v s).fault = s.fault := rfl
@[simp] theorem pushByte_busEnable (v : Byte) (s : State) : (pushByte v s).busEnable = true := rfl
@[simp] theorem pushByte_address (v : Byte) (s : State) : (pushByte v s).address = stackAddr s := rfl
@[simp] theorem pushByte_rw (v : Byte) (s : State) : (pushByte v s).rw = true := rfl
@[simp] theorem pushByte_data (v : Byte) (s : State) : (pushByte v s).data = (loByte (v.setWidth 16)).setWidth 16 := rfl
@[simp] theorem pushByte_ioEnable (v : Byte) (s : State) : (pushByte v s).ioEnable = s.ioEnable := rfl
@[simp] theorem pushByte_ioAddress (v : Byte) (s : State) : (pushByte v s).ioAddress = s.ioAddress := rfl
@[simp] theorem pushByte_ioRw (v : Byte) (s : State) : (pushByte v s).ioRw = s.ioRw := rfl
@[simp] theorem pushByte_ioData (v : Byte) (s : State) : (pushByte v s).ioData = s.ioData := rfl
@[simp] theorem pushByte_irqAck (v : Byte) (s : State) : (pushByte v s).irqAck = s.irqAck := rfl
@[simp] theorem pushByte_lines (v : Byte) (s : State) : (pushByte v s).lines = s.lines := rfl
@[simp] theorem pushByte_stim (v : Byte) (s : State) : (pushByte v s).stim = s.stim := rfl
@[simp] theorem pushByte_mem (v : Byte) (s : State) : (pushByte v s).mem = s.mem := rfl
@[simp] theorem pushByte_accepted (v : Byte) (s : State) : (pushByte v s).accepted = s.accepted := rfl

/-! A byte pop steps sp back and requests a read there (R31). -/

@[simp] theorem popByte_cfg (s : State) : (popByte s).cfg = s.cfg := rfl
@[simp] theorem popByte_regs (s : State) : (popByte s).regs = s.regs := rfl
@[simp] theorem popByte_flags (s : State) : (popByte s).flags = s.flags := rfl
@[simp] theorem popByte_pc (s : State) : (popByte s).pc = s.pc := rfl
@[simp] theorem popByte_sp (s : State) : (popByte s).sp = s.sp - 1 := rfl
@[simp] theorem popByte_phase (s : State) : (popByte s).phase = s.phase := rfl
@[simp] theorem popByte_cyc (s : State) : (popByte s).cyc = s.cyc := rfl
@[simp] theorem popByte_irOp (s : State) : (popByte s).irOp = s.irOp := rfl
@[simp] theorem popByte_irMeta (s : State) : (popByte s).irMeta = s.irMeta := rfl
@[simp] theorem popByte_word (s : State) : (popByte s).word = false := rfl
@[simp] theorem popByte_istat (s : State) : (popByte s).istat = s.istat := rfl
@[simp] theorem popByte_nmiPrev (s : State) : (popByte s).nmiPrev = s.nmiPrev := rfl
@[simp] theorem popByte_scr (s : State) : (popByte s).scr = s.scr := rfl
@[simp] theorem popByte_fault (s : State) : (popByte s).fault = s.fault := rfl
@[simp] theorem popByte_busEnable (s : State) : (popByte s).busEnable = true := rfl
@[simp] theorem popByte_address (s : State) : (popByte s).address = joinAddr s.cfg.stackPage (s.sp - 1) := rfl
@[simp] theorem popByte_rw (s : State) : (popByte s).rw = false := rfl
@[simp] theorem popByte_data (s : State) : (popByte s).data = s.data := rfl
@[simp] theorem popByte_ioEnable (s : State) : (popByte s).ioEnable = s.ioEnable := rfl
@[simp] theorem popByte_ioAddress (s : State) : (popByte s).ioAddress = s.ioAddress := rfl
@[simp] theorem popByte_ioRw (s : State) : (popByte s).ioRw = s.ioRw := rfl
@[simp] theorem popByte_ioData (s : State) : (popByte s).ioData = s.ioData := rfl
@[simp] theorem popByte_irqAck (s : State) : (popByte s).irqAck = s.irqAck := rfl
@[simp] theorem popByte_lines (s : State) : (popByte s).lines = s.lines := rfl
@[simp] theorem popByte_stim (s : State) : (popByte s).stim = s.stim := rfl
@[simp] theorem popByte_mem (s : State) : (popByte s).mem = s.mem := rfl
@[simp] theorem popByte_accepted (s : State) : (popByte s).accepted = s.accepted := rfl

/-! A selector write changes the registers only (R24). -/

@[simp] theorem writeSel_cfg (sel : Selector) (v : Word) (s : State) : (writeSel sel v s).cfg = s.cfg := rfl
@[simp] theorem writeSel_regs (sel : Selector) (v : Word) (s : State) : (writeSel sel v s).regs = writeTarget s.regs (decodeSelector s.cfg.halfSel sel) v := rfl
@[simp] theorem writeSel_flags (sel : Selector) (v : Word) (s : State) : (writeSel sel v s).flags = s.flags := rfl
@[simp] theorem writeSel_pc (sel : Selector) (v : Word) (s : State) : (writeSel sel v s).pc = s.pc := rfl
@[simp] theorem writeSel_sp (sel : Selector) (v : Word) (s : State) : (writeSel sel v s).sp = s.sp := rfl
@[simp] theorem writeSel_phase (sel : Selector) (v : Word) (s : State) : (writeSel sel v s).phase = s.phase := rfl
@[simp] theorem writeSel_cyc (sel : Selector) (v : Word) (s : State) : (writeSel sel v s).cyc = s.cyc := rfl
@[simp] theorem writeSel_irOp (sel : Selector) (v : Word) (s : State) : (writeSel sel v s).irOp = s.irOp := rfl
@[simp] theorem writeSel_irMeta (sel : Selector) (v : Word) (s : State) : (writeSel sel v s).irMeta = s.irMeta := rfl
@[simp] theorem writeSel_word (sel : Selector) (v : Word) (s : State) : (writeSel sel v s).word = s.word := rfl
@[simp] theorem writeSel_istat (sel : Selector) (v : Word) (s : State) : (writeSel sel v s).istat = s.istat := rfl
@[simp] theorem writeSel_nmiPrev (sel : Selector) (v : Word) (s : State) : (writeSel sel v s).nmiPrev = s.nmiPrev := rfl
@[simp] theorem writeSel_scr (sel : Selector) (v : Word) (s : State) : (writeSel sel v s).scr = s.scr := rfl
@[simp] theorem writeSel_fault (sel : Selector) (v : Word) (s : State) : (writeSel sel v s).fault = s.fault := rfl
@[simp] theorem writeSel_busEnable (sel : Selector) (v : Word) (s : State) : (writeSel sel v s).busEnable = s.busEnable := rfl
@[simp] theorem writeSel_address (sel : Selector) (v : Word) (s : State) : (writeSel sel v s).address = s.address := rfl
@[simp] theorem writeSel_rw (sel : Selector) (v : Word) (s : State) : (writeSel sel v s).rw = s.rw := rfl
@[simp] theorem writeSel_data (sel : Selector) (v : Word) (s : State) : (writeSel sel v s).data = s.data := rfl
@[simp] theorem writeSel_ioEnable (sel : Selector) (v : Word) (s : State) : (writeSel sel v s).ioEnable = s.ioEnable := rfl
@[simp] theorem writeSel_ioAddress (sel : Selector) (v : Word) (s : State) : (writeSel sel v s).ioAddress = s.ioAddress := rfl
@[simp] theorem writeSel_ioRw (sel : Selector) (v : Word) (s : State) : (writeSel sel v s).ioRw = s.ioRw := rfl
@[simp] theorem writeSel_ioData (sel : Selector) (v : Word) (s : State) : (writeSel sel v s).ioData = s.ioData := rfl
@[simp] theorem writeSel_irqAck (sel : Selector) (v : Word) (s : State) : (writeSel sel v s).irqAck = s.irqAck := rfl
@[simp] theorem writeSel_lines (sel : Selector) (v : Word) (s : State) : (writeSel sel v s).lines = s.lines := rfl
@[simp] theorem writeSel_stim (sel : Selector) (v : Word) (s : State) : (writeSel sel v s).stim = s.stim := rfl
@[simp] theorem writeSel_mem (sel : Selector) (v : Word) (s : State) : (writeSel sel v s).mem = s.mem := rfl
@[simp] theorem writeSel_accepted (sel : Selector) (v : Word) (s : State) : (writeSel sel v s).accepted = s.accepted := rfl

/-! The default drive clears the three enables (R123). -/

@[simp] theorem defaultDrive_cfg (s : State) : (defaultDrive s).cfg = s.cfg := rfl
@[simp] theorem defaultDrive_regs (s : State) : (defaultDrive s).regs = s.regs := rfl
@[simp] theorem defaultDrive_flags (s : State) : (defaultDrive s).flags = s.flags := rfl
@[simp] theorem defaultDrive_pc (s : State) : (defaultDrive s).pc = s.pc := rfl
@[simp] theorem defaultDrive_sp (s : State) : (defaultDrive s).sp = s.sp := rfl
@[simp] theorem defaultDrive_phase (s : State) : (defaultDrive s).phase = s.phase := rfl
@[simp] theorem defaultDrive_cyc (s : State) : (defaultDrive s).cyc = s.cyc := rfl
@[simp] theorem defaultDrive_irOp (s : State) : (defaultDrive s).irOp = s.irOp := rfl
@[simp] theorem defaultDrive_irMeta (s : State) : (defaultDrive s).irMeta = s.irMeta := rfl
@[simp] theorem defaultDrive_word (s : State) : (defaultDrive s).word = s.word := rfl
@[simp] theorem defaultDrive_istat (s : State) : (defaultDrive s).istat = s.istat := rfl
@[simp] theorem defaultDrive_nmiPrev (s : State) : (defaultDrive s).nmiPrev = s.nmiPrev := rfl
@[simp] theorem defaultDrive_scr (s : State) : (defaultDrive s).scr = s.scr := rfl
@[simp] theorem defaultDrive_fault (s : State) : (defaultDrive s).fault = s.fault := rfl
@[simp] theorem defaultDrive_busEnable (s : State) : (defaultDrive s).busEnable = false := rfl
@[simp] theorem defaultDrive_address (s : State) : (defaultDrive s).address = s.address := rfl
@[simp] theorem defaultDrive_rw (s : State) : (defaultDrive s).rw = s.rw := rfl
@[simp] theorem defaultDrive_data (s : State) : (defaultDrive s).data = s.data := rfl
@[simp] theorem defaultDrive_ioEnable (s : State) : (defaultDrive s).ioEnable = false := rfl
@[simp] theorem defaultDrive_ioAddress (s : State) : (defaultDrive s).ioAddress = s.ioAddress := rfl
@[simp] theorem defaultDrive_ioRw (s : State) : (defaultDrive s).ioRw = s.ioRw := rfl
@[simp] theorem defaultDrive_ioData (s : State) : (defaultDrive s).ioData = s.ioData := rfl
@[simp] theorem defaultDrive_irqAck (s : State) : (defaultDrive s).irqAck = false := rfl
@[simp] theorem defaultDrive_lines (s : State) : (defaultDrive s).lines = s.lines := rfl
@[simp] theorem defaultDrive_stim (s : State) : (defaultDrive s).stim = s.stim := rfl
@[simp] theorem defaultDrive_mem (s : State) : (defaultDrive s).mem = s.mem := rfl
@[simp] theorem defaultDrive_accepted (s : State) : (defaultDrive s).accepted = s.accepted := rfl

/-! Sampling changes the edge register and the latch only (R401). -/

@[simp] theorem sample_cfg (s : State) : (sample s).cfg = s.cfg := rfl
@[simp] theorem sample_regs (s : State) : (sample s).regs = s.regs := rfl
@[simp] theorem sample_flags (s : State) : (sample s).flags = s.flags := rfl
@[simp] theorem sample_pc (s : State) : (sample s).pc = s.pc := rfl
@[simp] theorem sample_sp (s : State) : (sample s).sp = s.sp := rfl
@[simp] theorem sample_phase (s : State) : (sample s).phase = s.phase := rfl
@[simp] theorem sample_cyc (s : State) : (sample s).cyc = s.cyc := rfl
@[simp] theorem sample_irOp (s : State) : (sample s).irOp = s.irOp := rfl
@[simp] theorem sample_irMeta (s : State) : (sample s).irMeta = s.irMeta := rfl
@[simp] theorem sample_word (s : State) : (sample s).word = s.word := rfl
@[simp] theorem sample_nmiPrev (s : State) : (sample s).nmiPrev = s.lines.nmi := rfl
@[simp] theorem sample_scr (s : State) : (sample s).scr = s.scr := rfl
@[simp] theorem sample_fault (s : State) : (sample s).fault = s.fault := rfl
@[simp] theorem sample_busEnable (s : State) : (sample s).busEnable = s.busEnable := rfl
@[simp] theorem sample_address (s : State) : (sample s).address = s.address := rfl
@[simp] theorem sample_rw (s : State) : (sample s).rw = s.rw := rfl
@[simp] theorem sample_data (s : State) : (sample s).data = s.data := rfl
@[simp] theorem sample_ioEnable (s : State) : (sample s).ioEnable = s.ioEnable := rfl
@[simp] theorem sample_ioAddress (s : State) : (sample s).ioAddress = s.ioAddress := rfl
@[simp] theorem sample_ioRw (s : State) : (sample s).ioRw = s.ioRw := rfl
@[simp] theorem sample_ioData (s : State) : (sample s).ioData = s.ioData := rfl
@[simp] theorem sample_irqAck (s : State) : (sample s).irqAck = s.irqAck := rfl
@[simp] theorem sample_lines (s : State) : (sample s).lines = s.lines := rfl
@[simp] theorem sample_stim (s : State) : (sample s).stim = s.stim := rfl
@[simp] theorem sample_mem (s : State) : (sample s).mem = s.mem := rfl
@[simp] theorem sample_accepted (s : State) : (sample s).accepted = s.accepted := rfl

/-! The finish step (R126). -/

@[simp] theorem finish_cfg (s : State) : (finish s).cfg = s.cfg := rfl
@[simp] theorem finish_regs (s : State) : (finish s).regs = s.regs := rfl
@[simp] theorem finish_flags (s : State) : (finish s).flags = s.flags := rfl
@[simp] theorem finish_pc (s : State) : (finish s).pc = s.pc := rfl
@[simp] theorem finish_sp (s : State) : (finish s).sp = s.sp := rfl
@[simp] theorem finish_phase (s : State) : (finish s).phase = if s.phase = .halt then .halt else if s.istat ≠ .none then .interrupt else .fetch := rfl
@[simp] theorem finish_cyc (s : State) : (finish s).cyc = 0 := rfl
@[simp] theorem finish_irOp (s : State) : (finish s).irOp = s.irOp := rfl
@[simp] theorem finish_irMeta (s : State) : (finish s).irMeta = s.irMeta := rfl
@[simp] theorem finish_word (s : State) : (finish s).word = s.word := rfl
@[simp] theorem finish_istat (s : State) : (finish s).istat = s.istat := rfl
@[simp] theorem finish_nmiPrev (s : State) : (finish s).nmiPrev = s.nmiPrev := rfl
@[simp] theorem finish_scr (s : State) : (finish s).scr = s.scr := rfl
@[simp] theorem finish_fault (s : State) : (finish s).fault = s.fault := rfl
@[simp] theorem finish_busEnable (s : State) : (finish s).busEnable = false := rfl
@[simp] theorem finish_address (s : State) : (finish s).address = s.address := rfl
@[simp] theorem finish_rw (s : State) : (finish s).rw = s.rw := rfl
@[simp] theorem finish_data (s : State) : (finish s).data = s.data := rfl
@[simp] theorem finish_ioEnable (s : State) : (finish s).ioEnable = false := rfl
@[simp] theorem finish_ioAddress (s : State) : (finish s).ioAddress = s.ioAddress := rfl
@[simp] theorem finish_ioRw (s : State) : (finish s).ioRw = s.ioRw := rfl
@[simp] theorem finish_ioData (s : State) : (finish s).ioData = s.ioData := rfl
@[simp] theorem finish_irqAck (s : State) : (finish s).irqAck = s.irqAck := rfl
@[simp] theorem finish_lines (s : State) : (finish s).lines = s.lines := rfl
@[simp] theorem finish_stim (s : State) : (finish s).stim = s.stim := rfl
@[simp] theorem finish_mem (s : State) : (finish s).mem = s.mem := rfl
@[simp] theorem finish_accepted (s : State) : (finish s).accepted = s.accepted := rfl

/-! Address assembly changes the scratch register only (R134). -/

@[simp] theorem resolveAddr_cfg (m : AbsOperand) (s : State) : (resolveAddr m s).cfg = s.cfg := rfl
@[simp] theorem resolveAddr_regs (m : AbsOperand) (s : State) : (resolveAddr m s).regs = s.regs := rfl
@[simp] theorem resolveAddr_flags (m : AbsOperand) (s : State) : (resolveAddr m s).flags = s.flags := rfl
@[simp] theorem resolveAddr_pc (m : AbsOperand) (s : State) : (resolveAddr m s).pc = s.pc := rfl
@[simp] theorem resolveAddr_sp (m : AbsOperand) (s : State) : (resolveAddr m s).sp = s.sp := rfl
@[simp] theorem resolveAddr_phase (m : AbsOperand) (s : State) : (resolveAddr m s).phase = s.phase := rfl
@[simp] theorem resolveAddr_cyc (m : AbsOperand) (s : State) : (resolveAddr m s).cyc = s.cyc := rfl
@[simp] theorem resolveAddr_irOp (m : AbsOperand) (s : State) : (resolveAddr m s).irOp = s.irOp := rfl
@[simp] theorem resolveAddr_irMeta (m : AbsOperand) (s : State) : (resolveAddr m s).irMeta = s.irMeta := rfl
@[simp] theorem resolveAddr_word (m : AbsOperand) (s : State) : (resolveAddr m s).word = s.word := rfl
@[simp] theorem resolveAddr_istat (m : AbsOperand) (s : State) : (resolveAddr m s).istat = s.istat := rfl
@[simp] theorem resolveAddr_nmiPrev (m : AbsOperand) (s : State) : (resolveAddr m s).nmiPrev = s.nmiPrev := rfl
@[simp] theorem resolveAddr_scr (m : AbsOperand) (s : State) : (resolveAddr m s).scr = effectiveAddr s m := rfl
@[simp] theorem resolveAddr_fault (m : AbsOperand) (s : State) : (resolveAddr m s).fault = s.fault := rfl
@[simp] theorem resolveAddr_busEnable (m : AbsOperand) (s : State) : (resolveAddr m s).busEnable = s.busEnable := rfl
@[simp] theorem resolveAddr_address (m : AbsOperand) (s : State) : (resolveAddr m s).address = s.address := rfl
@[simp] theorem resolveAddr_rw (m : AbsOperand) (s : State) : (resolveAddr m s).rw = s.rw := rfl
@[simp] theorem resolveAddr_data (m : AbsOperand) (s : State) : (resolveAddr m s).data = s.data := rfl
@[simp] theorem resolveAddr_ioEnable (m : AbsOperand) (s : State) : (resolveAddr m s).ioEnable = s.ioEnable := rfl
@[simp] theorem resolveAddr_ioAddress (m : AbsOperand) (s : State) : (resolveAddr m s).ioAddress = s.ioAddress := rfl
@[simp] theorem resolveAddr_ioRw (m : AbsOperand) (s : State) : (resolveAddr m s).ioRw = s.ioRw := rfl
@[simp] theorem resolveAddr_ioData (m : AbsOperand) (s : State) : (resolveAddr m s).ioData = s.ioData := rfl
@[simp] theorem resolveAddr_irqAck (m : AbsOperand) (s : State) : (resolveAddr m s).irqAck = s.irqAck := rfl
@[simp] theorem resolveAddr_lines (m : AbsOperand) (s : State) : (resolveAddr m s).lines = s.lines := rfl
@[simp] theorem resolveAddr_stim (m : AbsOperand) (s : State) : (resolveAddr m s).stim = s.stim := rfl
@[simp] theorem resolveAddr_mem (m : AbsOperand) (s : State) : (resolveAddr m s).mem = s.mem := rfl
@[simp] theorem resolveAddr_accepted (m : AbsOperand) (s : State) : (resolveAddr m s).accepted = s.accepted := rfl

end Sys2Proof.Laws
end

