-- ==== Sys2Proof/Laws/Ops.lean ====
section
/-! SUPPORT. What each shared operation of a system step can do, said once: the environment, resolution, one tick, a sequence of cycles (spec 40_engine.md R120, 60_exceptions.md R431, R433). -/

namespace Sys2Proof.Laws

open Sys2Proof.Machine

/-! ## The environment's part -/

/-- The environment changes the pin levels, its own list and, with other bus owners, memory; nothing else (R85). -/
theorem environment_eq (s : State) :
    environment s = { s with lines := (environment s).lines, stim := (environment s).stim, mem := (environment s).mem } := by
  unfold environment
  split <;> rfl

/-- With no other bus owner the environment leaves memory alone (R85). -/
theorem environment_mem {s : State} (h : s.cfg.externalWriters = false) : (environment s).mem = s.mem := by
  unfold environment
  split
  · rfl
  · simp [h]

/-- The environment keeps the canonical form of memory. -/
theorem environment_wf {s : State} (h : Memory.wf s.cfg.platform s.mem) :
    Memory.wf (environment s).cfg.platform (environment s).mem := by
  unfold environment
  split
  · exact h
  · simp only
    split
    · exact externalWrites_wf h _
    · exact h

/-! ## Resolution -/

/-- Resolution changes the data lanes, memory, the accepted writes and the fault register; nothing else (R74, R75). -/
theorem resolve_eq (s : State) :
    resolve s = { s with data := (resolve s).data, ioData := (resolve s).ioData, mem := (resolve s).mem,
                         accepted := (resolve s).accepted, fault := (resolve s).fault } := by
  have hm (s : State) : ∃ data mem acc fault, resolveMem s =
      { s with data := data, mem := mem, accepted := acc, fault := fault } := by
    unfold resolveMem
    split
    · split <;> split <;> exact ⟨_, _, _, _, rfl⟩
    · exact ⟨_, _, _, _, rfl⟩
  have hi (s : State) : ∃ ioData acc fault, resolveIo s =
      { s with ioData := ioData, accepted := acc, fault := fault } := by
    unfold resolveIo
    split
    · split <;> split <;> exact ⟨_, _, _, rfl⟩
    · exact ⟨_, _, _, rfl⟩
  obtain ⟨d, m, acc, f, h1⟩ := hm s
  unfold resolve
  simp only [h1]
  split
  · rfl
  · obtain ⟨io, acc', f', h2⟩ := hi { s with data := d, mem := m, accepted := acc, fault := f }
    simp only [h2]

/-- A cycle that requests nothing is resolved by doing nothing. -/
theorem resolve_idle {s : State} (h1 : s.busEnable = false) (h2 : s.ioEnable = false) : resolve s = s := by
  simp [resolve, resolveMem, resolveIo, h1, h2]

/-- Resolution keeps the canonical form of memory. -/
theorem resolve_wf {s : State} (h : Memory.wf s.cfg.platform s.mem) :
    Memory.wf (resolve s).cfg.platform (resolve s).mem := by
  have hm : Memory.wf (resolveMem s).cfg.platform (resolveMem s).mem := by
    unfold resolveMem
    split
    · split
      · split
        · rename_i hw
          exact memWrite_wf h hw
        · exact h
      · split <;> exact h
    · exact h
  unfold resolve
  simp only
  split
  · exact hm
  · unfold resolveIo
    split
    · split <;> split <;> exact hm
    · exact hm

/-! ## A system step -/

/-- When a tick answers a next state: no fault was recorded, the engine's part raised none, and the next state is the
resolved one, without a fault (R120, R431). -/
theorem tick_next {act : Action} {s t : State} (h : tick act s = .next t) :
    s.fault = none ∧ (engineCycle act (environment s)).fault = none ∧ t = resolve (engineCycle act (environment s)) ∧
      t.fault = none := by
  unfold tick at h
  split at h
  · simp at h
  · rename_i hs
    simp only at h
    split at h
    · rename_i hf
      unfold settle at h
      split at h
      · rename_i h0
        simp [h0] at hf
      · simp at h
    · rename_i hf
      unfold settle at h
      split at h
      · rename_i h0
        simp only [Host.Outcome.next.injEq] at h
        exact ⟨hs, by simpa using hf, h.symm, h ▸ h0⟩
      · simp at h

/-- A tick whose engine part raises no fault and whose resolution raises none answers the resolved state. -/
theorem tick_eq_next {act : Action} {s : State} (h1 : s.fault = none)
    (h2 : (engineCycle act (environment s)).fault = none)
    (h3 : (resolve (engineCycle act (environment s))).fault = none) :
    tick act s = .next (resolve (engineCycle act (environment s))) := by
  simp [tick, settle, h1, h2, h3]

/-- With a fault recorded a tick stops with that fault and the unchanged state (R433). -/
theorem tick_faulted {act : Action} {s : State} {f : FaultReg} (h : s.fault = some f) :
    tick act s = .fault (faultOf f s) := by
  simp [tick, h]

/-- A tick never refuses. -/
theorem tick_ne_refused (act : Action) (s : State) (r : Refusal) : tick act s ≠ .refused r := by
  have hs : ∀ u, settle u ≠ .refused r := by
    intro u
    unfold settle
    split <;> simp
  unfold tick
  split
  · simp
  · simp only
    split <;> exact hs _

/-! ## Sequences -/

@[simp] theorem runCycles_nil (s : State) : runCycles [] s = .next s := rfl

@[simp] theorem runCycles_cons (act : Action) (rest : List Action) (s : State) :
    runCycles (act :: rest) s = andThen (tick act s) (runCycles rest) := rfl

@[simp] theorem andThen_next (s : State) (k : State → Result) : andThen (.next s) k = k s := rfl

@[simp] theorem andThen_fault (f : Fault) (k : State → Result) : andThen (.fault f) k = .fault f := rfl

/-- `andThen` answers a next state through a next state. -/
theorem andThen_eq_next {r : Result} {k : State → Result} {t : State} :
    andThen r k = .next t ↔ ∃ s, r = .next s ∧ k s = .next t := by
  cases r <;> simp [andThen]

theorem andThen_assoc (r : Result) (k l : State → Result) :
    andThen (andThen r k) l = andThen r (fun s => andThen (k s) l) := by
  cases r <;> rfl

/-- A sequence of cycles in two parts. -/
theorem runCycles_append (xs ys : List Action) (s : State) :
    runCycles (xs ++ ys) s = andThen (runCycles xs s) (runCycles ys) := by
  induction xs generalizing s with
  | nil => rfl
  | cons a rest ih =>
    simp only [List.cons_append, runCycles_cons, andThen_assoc]
    congr 1
    funext u
    exact ih u

/-- A property that every tick of the sequence's actions keeps holds after the sequence. -/
theorem runCycles_keeps {P : State → Prop} {acts : List Action}
    (hstep : ∀ act ∈ acts, ∀ s t, P s → tick act s = .next t → P t) {s t : State} (hs : P s)
    (h : runCycles acts s = .next t) : P t := by
  induction acts generalizing s with
  | nil =>
    simp only [runCycles_nil, Host.Outcome.next.injEq] at h
    exact h ▸ hs
  | cons a rest ih =>
    obtain ⟨u, hu, hr⟩ := andThen_eq_next.mp h
    exact ih (fun b hb => hstep b (List.mem_cons_of_mem _ hb)) (hstep a (List.mem_cons_self ..) s u hs hu) hr

end Sys2Proof.Laws
end

