-- ==== Sys2Proof/Laws/Exec.lean ====
section
/-! SUPPORT. Every meaning runs the instruction's schedule (spec 40_engine.md R125, R140). -/

namespace Sys2Proof.Laws

open Sys2Proof.Machine

/-- The meaning of an instruction is its Execute cycles, run. -/
theorem exec_eq_schedule (i : Instr) (s : State) : exec i s = runCycles (schedule i) s := by
  cases i <;> rfl

/-- No instruction refuses. -/
theorem exec_ne_refused (i : Instr) (s : State) (r : Refusal) : exec i s ≠ .refused r := by
  rw [exec_eq_schedule]
  generalize schedule i = acts
  induction acts generalizing s with
  | nil => simp
  | cons a rest ih =>
    simp only [runCycles_cons]
    cases ht : tick a s with
    | next u => simpa [andThen] using ih u
    | fault f => simp [andThen]
    | refused f => exact absurd ht (tick_ne_refused a s f)

end Sys2Proof.Laws
end

