-- ==== Sys2Proof/Laws/Tick.lean ====
section
/-! SUPPORT. One system step in closed form, by what its action requests: nothing, a memory read, a memory write, an IO read, an IO write (spec 40_engine.md R120 to R123, 20_memory.md R74, R75). -/

namespace Sys2Proof.Laws

open Sys2Proof.Machine

/-- The state a cycle's action runs on: after the environment's part, the sample and the default drive (R120). -/
def begun (s : State) : State := defaultDrive (sample (environment s))

@[simp] theorem begun_cfg (s : State) : (begun s).cfg = s.cfg := by rw [begun, environment_eq]; rfl
@[simp] theorem begun_regs (s : State) : (begun s).regs = s.regs := by rw [begun, environment_eq]; rfl
@[simp] theorem begun_flags (s : State) : (begun s).flags = s.flags := by rw [begun, environment_eq]; rfl
@[simp] theorem begun_pc (s : State) : (begun s).pc = s.pc := by rw [begun, environment_eq]; rfl
@[simp] theorem begun_sp (s : State) : (begun s).sp = s.sp := by rw [begun, environment_eq]; rfl
@[simp] theorem begun_phase (s : State) : (begun s).phase = s.phase := by rw [begun, environment_eq]; rfl
@[simp] theorem begun_cyc (s : State) : (begun s).cyc = s.cyc := by rw [begun, environment_eq]; rfl
@[simp] theorem begun_irOp (s : State) : (begun s).irOp = s.irOp := by rw [begun, environment_eq]; rfl
@[simp] theorem begun_irMeta (s : State) : (begun s).irMeta = s.irMeta := by rw [begun, environment_eq]; rfl
@[simp] theorem begun_word (s : State) : (begun s).word = s.word := by rw [begun, environment_eq]; rfl
@[simp] theorem begun_scr (s : State) : (begun s).scr = s.scr := by rw [begun, environment_eq]; rfl
@[simp] theorem begun_fault (s : State) : (begun s).fault = s.fault := by rw [begun, environment_eq]; rfl
@[simp] theorem begun_address (s : State) : (begun s).address = s.address := by rw [begun, environment_eq]; rfl
@[simp] theorem begun_rw (s : State) : (begun s).rw = s.rw := by rw [begun, environment_eq]; rfl
@[simp] theorem begun_data (s : State) : (begun s).data = s.data := by rw [begun, environment_eq]; rfl
@[simp] theorem begun_ioAddress (s : State) : (begun s).ioAddress = s.ioAddress := by rw [begun, environment_eq]; rfl
@[simp] theorem begun_ioRw (s : State) : (begun s).ioRw = s.ioRw := by rw [begun, environment_eq]; rfl
@[simp] theorem begun_ioData (s : State) : (begun s).ioData = s.ioData := by rw [begun, environment_eq]; rfl
@[simp] theorem begun_accepted (s : State) : (begun s).accepted = s.accepted := by rw [begun, environment_eq]; rfl
@[simp] theorem begun_busEnable (s : State) : (begun s).busEnable = false := rfl
@[simp] theorem begun_ioEnable (s : State) : (begun s).ioEnable = false := rfl
@[simp] theorem begun_irqAck (s : State) : (begun s).irqAck = false := rfl
@[simp] theorem begun_lines (s : State) : (begun s).lines = (environment s).lines := rfl
@[simp] theorem begun_stim (s : State) : (begun s).stim = (environment s).stim := rfl
@[simp] theorem begun_nmiPrev (s : State) : (begun s).nmiPrev = (environment s).lines.nmi := rfl

/-- Memory at the start of a cycle, with no other bus owner (R85). -/
theorem begun_mem {s : State} (h : s.cfg.externalWriters = false) : (begun s).mem = s.mem := environment_mem h

/-- The latch after the sample (R401). -/
theorem begun_istat (s : State) :
    (begun s).istat =
      if s.istat = .none then
        if (environment s).lines.irq && !s.flags.i then .irq
        else if (environment s).lines.nmi && !s.nmiPrev then .nmi else .none
      else s.istat := by
  rw [begun, environment_eq]; rfl

/-- A latched interrupt stays latched over the sample (R403). -/
theorem begun_istat_of_ne {s : State} (h : s.istat ≠ .none) : (begun s).istat = s.istat := by
  rw [begun_istat, if_neg h]

/-! ## A tick by its request -/

section

variable {act : Action} {s u : State}

theorem engineCycle_eq (hu : act (begun s) = u) (hf : u.fault = none) :
    engineCycle act (environment s) = { u with cyc := u.cyc + 1 } := by
  have h : act (defaultDrive (sample (environment s))) = u := hu
  simp [engineCycle, h, hf]

/-- A cycle that requests nothing. -/
theorem tick_idle (hs : s.fault = none) (hu : act (begun s) = u) (hf : u.fault = none) (hb : u.busEnable = false)
    (hi : u.ioEnable = false) : tick act s = .next { u with cyc := u.cyc + 1 } := by
  have h := engineCycle_eq hu hf
  simp [tick, settle, hs, h, hf, resolve_idle, hb, hi]

/-- A cycle that raises a fault itself: nothing is resolved (R433). -/
theorem tick_raise {f : FaultReg} (hs : s.fault = none) (hu : act (begun s) = u) (hf : u.fault = some f) :
    tick act s = .fault (faultOf f u) := by
  have h : act (defaultDrive (sample (environment s))) = u := hu
  simp [tick, settle, engineCycle, hs, h, hf]

/-- A memory read that is answered with a value. -/
theorem tick_read {v : Word} (hs : s.fault = none) (hu : act (begun s) = u) (hf : u.fault = none)
    (hb : u.busEnable = true) (hr : u.rw = false) (hi : u.ioEnable = false)
    (hm : memRead u.cfg u.mem u.lines u.address u.word = .ok v) :
    tick act s = .next { u with cyc := u.cyc + 1, data := v } := by
  have h := engineCycle_eq hu hf
  simp [tick, settle, hs, h, hf, resolve, resolveMem, resolveIo, hb, hr, hi, hm]

/-- A memory read that faults delivers no data (R431). -/
theorem tick_read_fault {f : FaultReg} (hs : s.fault = none) (hu : act (begun s) = u) (hf : u.fault = none)
    (hb : u.busEnable = true) (hr : u.rw = false)
    (hm : memRead u.cfg u.mem u.lines u.address u.word = .error f) :
    tick act s = .fault (faultOf f { u with cyc := u.cyc + 1, fault := some f }) := by
  have h := engineCycle_eq hu hf
  simp [tick, settle, hs, h, hf, resolve, resolveMem, hb, hr, hm, raise]

/-- A memory write that succeeds. -/
theorem tick_write {m : Memory} {log : List Accepted} (hs : s.fault = none) (hu : act (begun s) = u)
    (hf : u.fault = none) (hb : u.busEnable = true) (hr : u.rw = true) (hi : u.ioEnable = false)
    (hm : memWrite u.cfg u.mem u.lines u.address u.word u.data = .ok (m, log)) :
    tick act s = .next { u with cyc := u.cyc + 1, mem := m, accepted := log ++ u.accepted } := by
  have h := engineCycle_eq hu hf
  simp [tick, settle, hs, h, hf, resolve, resolveMem, resolveIo, hb, hr, hi, hm]

/-- A memory write that faults changes no byte (R431). -/
theorem tick_write_fault {f : FaultReg} (hs : s.fault = none) (hu : act (begun s) = u) (hf : u.fault = none)
    (hb : u.busEnable = true) (hr : u.rw = true)
    (hm : memWrite u.cfg u.mem u.lines u.address u.word u.data = .error f) :
    tick act s = .fault (faultOf f { u with cyc := u.cyc + 1, fault := some f }) := by
  have h := engineCycle_eq hu hf
  simp [tick, settle, hs, h, hf, resolve, resolveMem, hb, hr, hm, raise]

/-- An IO read that is answered with a byte. -/
theorem tick_ioRead {b : Byte} (hs : s.fault = none) (hu : act (begun s) = u) (hf : u.fault = none)
    (hb : u.busEnable = false) (hr : u.ioRw = false) (hi : u.ioEnable = true)
    (hm : ioReadResult u.cfg u.lines u.ioAddress = .ok b) :
    tick act s = .next { u with cyc := u.cyc + 1, ioData := b } := by
  have h := engineCycle_eq hu hf
  simp [tick, settle, hs, h, hf, resolve, resolveMem, resolveIo, hb, hr, hi, hm]

/-- An IO read that faults. -/
theorem tick_ioRead_fault {f : FaultReg} (hs : s.fault = none) (hu : act (begun s) = u) (hf : u.fault = none)
    (hb : u.busEnable = false) (hr : u.ioRw = false) (hi : u.ioEnable = true)
    (hm : ioReadResult u.cfg u.lines u.ioAddress = .error f) :
    tick act s = .fault (faultOf f { u with cyc := u.cyc + 1, fault := some f }) := by
  have h := engineCycle_eq hu hf
  simp [tick, settle, hs, h, hf, resolve, resolveMem, resolveIo, hb, hr, hi, hm, raise]

/-- An IO write that succeeds. -/
theorem tick_ioWrite {log : List Accepted} (hs : s.fault = none) (hu : act (begun s) = u) (hf : u.fault = none)
    (hb : u.busEnable = false) (hr : u.ioRw = true) (hi : u.ioEnable = true)
    (hm : ioWriteResult u.cfg u.lines u.ioAddress u.ioData = .ok log) :
    tick act s = .next { u with cyc := u.cyc + 1, accepted := log ++ u.accepted } := by
  have h := engineCycle_eq hu hf
  simp [tick, settle, hs, h, hf, resolve, resolveMem, resolveIo, hb, hr, hi, hm]

/-- An IO write that faults. -/
theorem tick_ioWrite_fault {f : FaultReg} (hs : s.fault = none) (hu : act (begun s) = u) (hf : u.fault = none)
    (hb : u.busEnable = false) (hr : u.ioRw = true) (hi : u.ioEnable = true)
    (hm : ioWriteResult u.cfg u.lines u.ioAddress u.ioData = .error f) :
    tick act s = .fault (faultOf f { u with cyc := u.cyc + 1, fault := some f }) := by
  have h := engineCycle_eq hu hf
  simp [tick, settle, hs, h, hf, resolve, resolveMem, resolveIo, hb, hr, hi, hm, raise]

end

end Sys2Proof.Laws
end

