-- ==== Sys2Proof/Laws/Actions.lean ====
section
/-! SUPPORT. What every cycle action of the engine leaves alone, said once for all sequences and instructions (spec 40_engine.md R120 to R149). -/

namespace Sys2Proof.Laws

open Sys2Proof.Machine

/-- What an action never changes: the parameters, memory, the accepted writes, the input pins, the edge detector. It
requests at most one kind of transaction (R63). -/
structure Quiet (act : Action) : Prop where
  cfg : ∀ u, (act u).cfg = u.cfg
  mem : ∀ u, (act u).mem = u.mem
  accepted : ∀ u, (act u).accepted = u.accepted
  lines : ∀ u, (act u).lines = u.lines
  stim : ∀ u, (act u).stim = u.stim
  nmiPrev : ∀ u, (act u).nmiPrev = u.nmiPrev
  oneRequest : ∀ u, u.busEnable = false → u.ioEnable = false → ((act u).busEnable && (act u).ioEnable) = false

/-- What an Execute, Fetch or Reset action does besides: it touches neither the latch nor the acknowledge line. -/
structure Plain (act : Action) : Prop extends Quiet act where
  istat : ∀ u, (act u).istat = u.istat
  irqAck : ∀ u, (act u).irqAck = u.irqAck

theorem finish_mono {act : Action} (h : Plain act) : Plain (fun s => finish (act s)) where
  cfg u := h.cfg u
  mem u := h.mem u
  accepted u := h.accepted u
  lines u := h.lines u
  stim u := h.stim u
  nmiPrev u := h.nmiPrev u
  oneRequest _ _ _ := rfl
  istat u := h.istat u
  irqAck u := h.irqAck u

theorem plain_finish : Plain finish := ⟨⟨fun _ => rfl, fun _ => rfl, fun _ => rfl, fun _ => rfl, fun _ => rfl, fun _ => rfl,
  fun _ _ _ => rfl⟩, fun _ => rfl, fun _ => rfl⟩

theorem plain_applyOut {w : Nat} (r1 : Selector) (out : State → AluOut w) : Plain (fun s => applyOut r1 (out s) s) := by
  constructor
  · constructor
    all_goals intro u
    all_goals simp only [applyOut]
    all_goals cases (out u).result
    all_goals first | rfl | (intro h1 h2; simp [writeSel, h1])
  all_goals intro u
  all_goals simp only [applyOut]
  all_goals cases (out u).result <;> rfl

theorem plain_aluFinish (w : Nat) (op : AluOp w) (r1 : Selector) (b : State → BitVec w) :
    Plain (fun s => aluFinish w op r1 (b s) s) :=
  finish_mono (plain_applyOut r1 (fun s => op s.flags (operand w s r1) (b s)))

theorem plain_regCycle1 (w : Nat) (op : AluOp1 w) (r1 : Selector) : Plain (regCycle1 w op r1) :=
  finish_mono (plain_applyOut r1 (fun s => op s.flags (operand w s r1)))

/-- A jump's last cycle. -/
theorem plain_jumpCycle (cond : Flags → Bool) (m : AbsOperand) : Plain (jumpCycle cond m) := by
  refine finish_mono (act := fun s => let t := resolveAddr m s; if cond t.flags then { t with pc := t.scr } else t) ?_
  constructor
  · constructor
    all_goals intro u
    all_goals simp only
    all_goals split
    all_goals first | rfl | (intro h1 h2; simp [resolveAddr, h1])
  all_goals intro u
  all_goals simp only
  all_goals split <;> rfl

theorem plain_loadRequest (wide : Bool) (m : AbsOperand) : Plain (loadRequest wide m) :=
  ⟨⟨fun _ => rfl, fun _ => rfl, fun _ => rfl, fun _ => rfl, fun _ => rfl, fun _ => rfl,
    fun u _ h => by simp [loadRequest, resolveAddr, busRead, h]⟩, fun _ => rfl, fun _ => rfl⟩

theorem plain_storeRequest (wide : Bool) (r1 : Selector) (m : AbsOperand) : Plain (storeRequest wide r1 m) :=
  ⟨⟨fun _ => rfl, fun _ => rfl, fun _ => rfl, fun _ => rfl, fun _ => rfl, fun _ => rfl,
    fun u _ h => by simp [storeRequest, resolveAddr, busWrite, h]⟩, fun _ => rfl, fun _ => rfl⟩

/-- A closed action whose request is none, a memory transaction or an IO transaction. -/
theorem plain_of_rfl {act : Action} (h1 : ∀ u, (act u).cfg = u.cfg ∧ (act u).mem = u.mem ∧ (act u).accepted = u.accepted ∧
      (act u).lines = u.lines ∧ (act u).stim = u.stim ∧ (act u).nmiPrev = u.nmiPrev ∧ (act u).istat = u.istat ∧
      (act u).irqAck = u.irqAck)
    (h2 : ∀ u, u.busEnable = false → u.ioEnable = false → ((act u).busEnable && (act u).ioEnable) = false) : Plain act :=
  ⟨⟨fun u => (h1 u).1, fun u => (h1 u).2.1, fun u => (h1 u).2.2.1, fun u => (h1 u).2.2.2.1, fun u => (h1 u).2.2.2.2.1,
    fun u => (h1 u).2.2.2.2.2.1, h2⟩, fun u => (h1 u).2.2.2.2.2.2.1, fun u => (h1 u).2.2.2.2.2.2.2⟩

/-- All actions of a list are plain. -/
def AllPlain (acts : List Action) : Prop := ∀ act ∈ acts, Plain act

theorem allPlain_nil : AllPlain [] := by simp [AllPlain]

theorem allPlain_cons {act : Action} {acts : List Action} (h : Plain act) (hs : AllPlain acts) : AllPlain (act :: acts) := by
  intro b hb
  rcases List.mem_cons.mp hb with rfl | hb
  · exact h
  · exact hs b hb

theorem allPlain_append {xs ys : List Action} (hx : AllPlain xs) (hy : AllPlain ys) : AllPlain (xs ++ ys) := by
  intro b hb
  rcases List.mem_append.mp hb with hb | hb
  · exact hx b hb
  · exact hy b hb

theorem plain_memory {act : Action} (h1 : ∀ u, (act u).cfg = u.cfg ∧ (act u).mem = u.mem ∧ (act u).accepted = u.accepted ∧
      (act u).lines = u.lines ∧ (act u).stim = u.stim ∧ (act u).nmiPrev = u.nmiPrev ∧ (act u).istat = u.istat ∧
      (act u).irqAck = u.irqAck) (h2 : ∀ u, (act u).ioEnable = u.ioEnable) : Plain act :=
  plain_of_rfl h1 (fun u _ h => by rw [h2, h]; simp)

theorem plain_io {act : Action} (h1 : ∀ u, (act u).cfg = u.cfg ∧ (act u).mem = u.mem ∧ (act u).accepted = u.accepted ∧
      (act u).lines = u.lines ∧ (act u).stim = u.stim ∧ (act u).nmiPrev = u.nmiPrev ∧ (act u).istat = u.istat ∧
      (act u).irqAck = u.irqAck) (h2 : ∀ u, (act u).busEnable = u.busEnable) : Plain act :=
  plain_of_rfl h1 (fun u h _ => by rw [h2, h]; simp)

theorem plain_fetch : AllPlain fetchCycles := by
  unfold fetchCycles
  refine allPlain_cons (plain_memory ?_ ?_) (allPlain_cons (plain_memory ?_ ?_) (allPlain_cons (plain_memory ?_ ?_)
    allPlain_nil))
  all_goals intro u
  all_goals first | exact ⟨rfl, rfl, rfl, rfl, rfl, rfl, rfl, rfl⟩ | rfl

theorem plain_reset : AllPlain resetCycles := by
  unfold resetCycles
  refine allPlain_cons (plain_memory ?_ ?_) (allPlain_cons (plain_memory ?_ ?_) (allPlain_cons (plain_memory ?_ ?_)
    allPlain_nil))
  all_goals intro u
  all_goals first | exact ⟨rfl, rfl, rfl, rfl, rfl, rfl, rfl, rfl⟩ | rfl

theorem plain_operand (mn : Mnemonic) (mode : Mode) : AllPlain (operandCycles mn mode) := by
  cases mode
  · exact allPlain_nil
  · refine allPlain_cons (plain_memory ?_ ?_) allPlain_nil
    all_goals intro u
    all_goals first | exact ⟨rfl, rfl, rfl, rfl, rfl, rfl, rfl, rfl⟩ | rfl
  · exact allPlain_nil
  · refine allPlain_cons (plain_memory ?_ ?_) (allPlain_cons (plain_memory ?_ ?_) allPlain_nil)
    all_goals intro u
    all_goals first | exact ⟨rfl, rfl, rfl, rfl, rfl, rfl, rfl, rfl⟩ | rfl

theorem plain_pops : AllPlain returnPops := by
  unfold returnPops
  refine allPlain_cons (plain_memory ?_ ?_) (allPlain_cons (plain_memory ?_ ?_) (allPlain_cons (plain_memory ?_ ?_)
    allPlain_nil))
  all_goals intro u
  all_goals first | exact ⟨rfl, rfl, rfl, rfl, rfl, rfl, rfl, rfl⟩ | rfl

theorem plain_call (m : AbsOperand) : AllPlain (callTemplate m) := by
  unfold callTemplate
  refine allPlain_cons (plain_memory ?_ ?_) (allPlain_cons (plain_memory ?_ ?_) (allPlain_cons (plain_memory ?_ ?_)
    (allPlain_cons (finish_mono (act := fun s => { s with pc := s.scr }) (plain_memory ?_ ?_)) allPlain_nil)))
  all_goals intro u
  all_goals first | exact ⟨rfl, rfl, rfl, rfl, rfl, rfl, rfl, rfl⟩ | rfl

theorem plain_push (wide : Bool) (r1 : Selector) : AllPlain (pushTemplate wide r1) := by
  unfold pushTemplate
  refine allPlain_cons (plain_memory ?_ ?_) (allPlain_cons plain_finish allPlain_nil)
  all_goals intro u
  all_goals first | exact ⟨rfl, rfl, rfl, rfl, rfl, rfl, rfl, rfl⟩ | rfl

theorem plain_pop (wide : Bool) (r1 : Selector) : AllPlain (popTemplate wide r1) := by
  unfold popTemplate
  refine allPlain_cons (plain_memory ?_ ?_) (allPlain_cons (finish_mono (act := fun s => writeSel r1
    (if wide then s.data else (loByte s.data).setWidth 16) s) (plain_memory ?_ ?_)) allPlain_nil)
  all_goals intro u
  all_goals first | exact ⟨rfl, rfl, rfl, rfl, rfl, rfl, rfl, rfl⟩ | rfl

theorem plain_return : AllPlain returnTemplate := by
  refine allPlain_append plain_pops (allPlain_cons (finish_mono (act := fun s => { s with scr := returnTarget s
                                                                                          pc := returnTarget s })
    (plain_memory ?_ ?_)) allPlain_nil)
  all_goals intro u
  all_goals first | exact ⟨rfl, rfl, rfl, rfl, rfl, rfl, rfl, rfl⟩ | rfl

theorem plain_returnFromInterrupt : AllPlain returnFromInterrupt := by
  refine allPlain_append plain_pops (allPlain_cons (plain_memory ?_ ?_) (allPlain_cons (finish_mono (act := fun s =>
    { s with flags := unpackFlags s.cfg.flagLayout (loByte s.data), pc := s.scr }) (plain_memory ?_ ?_)) allPlain_nil))
  all_goals intro u
  all_goals first | exact ⟨rfl, rfl, rfl, rfl, rfl, rfl, rfl, rfl⟩ | rfl

theorem plain_implied {effect : State → State} (h : Plain effect) : AllPlain [impliedCycle effect] :=
  allPlain_cons (finish_mono h) allPlain_nil

theorem plain_in (r1 : Selector) (port : State → Byte) : AllPlain [fun s => inRequest (port s) s, inFinish r1] := by
  refine allPlain_cons (plain_io ?_ ?_) (allPlain_cons (finish_mono (act := fun s => writeSel r1
    (s.ioData.setWidth 16) s) (plain_memory ?_ ?_)) allPlain_nil)
  all_goals intro u
  all_goals first | exact ⟨rfl, rfl, rfl, rfl, rfl, rfl, rfl, rfl⟩ | rfl

theorem plain_out (r1 : Selector) (port : State → Byte) : AllPlain [fun s => outRequest r1 (port s) s, finish] := by
  refine allPlain_cons (plain_io ?_ ?_) (allPlain_cons plain_finish allPlain_nil)
  all_goals intro u
  all_goals first | exact ⟨rfl, rfl, rfl, rfl, rfl, rfl, rfl, rfl⟩ | rfl

theorem plain_imm (w : Nat) (op : AluOp w) (r1 : Selector) (b : BitVec w) : AllPlain [aluFinish w op r1 b] :=
  allPlain_cons (plain_aluFinish w op r1 (fun _ => b)) allPlain_nil

theorem plain_reg (w : Nat) (op : AluOp w) (r1 r2 : Selector) : AllPlain [regCycle w op r1 r2] :=
  allPlain_cons (plain_aluFinish w op r1 (fun s => operand w s r2)) allPlain_nil

theorem plain_reg1 (w : Nat) (op : AluOp1 w) (r1 : Selector) : AllPlain [regCycle1 w op r1] :=
  allPlain_cons (plain_regCycle1 w op r1) allPlain_nil

theorem plain_load (wide : Bool) (w : Nat) (op : AluOp w) (r1 : Selector) (m : AbsOperand) :
    AllPlain [loadRequest wide m, loadFinish w op r1] :=
  allPlain_cons (plain_loadRequest wide m) (allPlain_cons (plain_aluFinish w op r1 (fun s => s.data.setWidth w)) allPlain_nil)

theorem plain_store (wide : Bool) (r1 : Selector) (m : AbsOperand) : AllPlain [storeRequest wide r1 m, finish] :=
  allPlain_cons (plain_storeRequest wide r1 m) (allPlain_cons plain_finish allPlain_nil)

theorem plain_jump (cond : Flags → Bool) (m : AbsOperand) : AllPlain [jumpCycle cond m] :=
  allPlain_cons (plain_jumpCycle cond m) allPlain_nil

/-- Every Execute cycle of every instruction is plain. -/
theorem plain_schedule : (i : Instr) → AllPlain (schedule i)
  | .addImm r1 imm => plain_imm 16 aluAdd r1 imm
  | .addReg r1 r2 => plain_reg 16 aluAdd r1 r2
  | .addAbs r1 m => plain_load true 16 aluAdd r1 m
  | .addbImm r1 imm => plain_imm 8 aluAdd r1 imm
  | .addbReg r1 r2 => plain_reg 8 aluAdd r1 r2
  | .addbAbs r1 m => plain_load false 8 aluAdd r1 m
  | .subImm r1 imm => plain_imm 16 aluSub r1 imm
  | .subReg r1 r2 => plain_reg 16 aluSub r1 r2
  | .subAbs r1 m => plain_load true 16 aluSub r1 m
  | .subbImm r1 imm => plain_imm 8 aluSub r1 imm
  | .subbReg r1 r2 => plain_reg 8 aluSub r1 r2
  | .subbAbs r1 m => plain_load false 8 aluSub r1 m
  | .inc r1 => plain_reg1 16 aluInc r1
  | .incb r1 => plain_reg1 8 aluInc r1
  | .dec r1 => plain_reg1 16 aluDec r1
  | .decb r1 => plain_reg1 8 aluDec r1
  | .andImm r1 imm => plain_imm 16 aluAnd r1 imm
  | .andReg r1 r2 => plain_reg 16 aluAnd r1 r2
  | .andAbs r1 m => plain_load true 16 aluAnd r1 m
  | .andbImm r1 imm => plain_imm 8 aluAnd r1 imm
  | .andbReg r1 r2 => plain_reg 8 aluAnd r1 r2
  | .andbAbs r1 m => plain_load false 8 aluAnd r1 m
  | .orImm r1 imm => plain_imm 16 aluOr r1 imm
  | .orReg r1 r2 => plain_reg 16 aluOr r1 r2
  | .orAbs r1 m => plain_load true 16 aluOr r1 m
  | .orbImm r1 imm => plain_imm 8 aluOr r1 imm
  | .orbReg r1 r2 => plain_reg 8 aluOr r1 r2
  | .orbAbs r1 m => plain_load false 8 aluOr r1 m
  | .xorImm r1 imm => plain_imm 16 aluXor r1 imm
  | .xorReg r1 r2 => plain_reg 16 aluXor r1 r2
  | .xorAbs r1 m => plain_load true 16 aluXor r1 m
  | .xorbImm r1 imm => plain_imm 8 aluXor r1 imm
  | .xorbReg r1 r2 => plain_reg 8 aluXor r1 r2
  | .xorbAbs r1 m => plain_load false 8 aluXor r1 m
  | .not r1 => plain_reg1 16 aluNot r1
  | .notb r1 => plain_reg1 8 aluNot r1
  | .shl r1 => plain_reg1 16 aluShl r1
  | .shlb r1 => plain_reg1 8 aluShl r1
  | .shr r1 => plain_reg1 16 aluShr r1
  | .shrb r1 => plain_reg1 8 aluShr r1
  | .rol r1 => plain_reg1 16 aluRol r1
  | .rolb r1 => plain_reg1 8 aluRol r1
  | .ror r1 => plain_reg1 16 aluRor r1
  | .rorb r1 => plain_reg1 8 aluRor r1
  | .cmpImm r1 imm => plain_imm 16 aluCmp r1 imm
  | .cmpReg r1 r2 => plain_reg 16 aluCmp r1 r2
  | .cmpAbs r1 m => plain_load true 16 aluCmp r1 m
  | .cmpbImm r1 imm => plain_imm 8 aluCmp r1 imm
  | .cmpbReg r1 r2 => plain_reg 8 aluCmp r1 r2
  | .cmpbAbs r1 m => plain_load false 8 aluCmp r1 m
  | .movImm r1 imm => plain_imm 16 aluMov r1 imm
  | .movReg r1 r2 => plain_reg 16 aluMov r1 r2
  | .movAbs r1 m => plain_load true 16 aluMov r1 m
  | .movbImm r1 imm => plain_imm 8 aluMov r1 imm
  | .movbReg r1 r2 => plain_reg 8 aluMov r1 r2
  | .movbAbs r1 m => plain_load false 8 aluMov r1 m
  | .str r1 m => plain_store true r1 m
  | .strb r1 m => plain_store false r1 m
  | .push r1 => plain_push true r1
  | .pushb r1 => plain_push false r1
  | .pop r1 => plain_pop true r1
  | .popb r1 => plain_pop false r1
  | .jmp m => plain_jump condTrue m
  | .jsr m => plain_call m
  | .rts => plain_return
  | .rti => plain_returnFromInterrupt
  | .beq m => plain_jump condEq m
  | .bne m => plain_jump condNe m
  | .bcs m => plain_jump condCs m
  | .bcc m => plain_jump condCc m
  | .bmi m => plain_jump condMi m
  | .bpl m => plain_jump condPl m
  | .bvs m => plain_jump condVs m
  | .bvc m => plain_jump condVc m
  | .blt m => plain_jump condLt m
  | .bgt m => plain_jump condGt m
  | .sec => plain_implied (plain_memory (fun _ => ⟨rfl, rfl, rfl, rfl, rfl, rfl, rfl, rfl⟩) (fun _ => rfl))
  | .clc => plain_implied (plain_memory (fun _ => ⟨rfl, rfl, rfl, rfl, rfl, rfl, rfl, rfl⟩) (fun _ => rfl))
  | .sei => plain_implied (plain_memory (fun _ => ⟨rfl, rfl, rfl, rfl, rfl, rfl, rfl, rfl⟩) (fun _ => rfl))
  | .cli => plain_implied (plain_memory (fun _ => ⟨rfl, rfl, rfl, rfl, rfl, rfl, rfl, rfl⟩) (fun _ => rfl))
  | .clv => plain_implied (plain_memory (fun _ => ⟨rfl, rfl, rfl, rfl, rfl, rfl, rfl, rfl⟩) (fun _ => rfl))
  | .inImm r1 port => plain_in r1 (fun _ => port)
  | .inReg r1 r2 => plain_in r1 (fun s => portOf s r2)
  | .outImm r1 port => plain_out r1 (fun _ => port)
  | .outReg r1 r2 => plain_out r1 (fun s => portOf s r2)
  | .nop => plain_implied (plain_memory (fun _ => ⟨rfl, rfl, rfl, rfl, rfl, rfl, rfl, rfl⟩) (fun _ => rfl))
  | .hlt => plain_implied (plain_memory (fun _ => ⟨rfl, rfl, rfl, rfl, rfl, rfl, rfl, rfl⟩) (fun _ => rfl))

theorem plain_raise (f : State → FaultReg) : Plain (fun s => raise (f s) s) :=
  plain_memory (fun _ => ⟨rfl, rfl, rfl, rfl, rfl, rfl, rfl, rfl⟩) (fun _ => rfl)

theorem plain_halt : Plain haltCycle :=
  plain_memory (fun _ => ⟨rfl, rfl, rfl, rfl, rfl, rfl, rfl, rfl⟩) (fun _ => rfl)

/-! ## The action of a cycle -/

/-- The Interrupt cycles: the first drives the acknowledge line, the last may write the latch, the others are plain
(R414 to R417). -/
theorem interrupt_action {c : Nat} {act : Action} (h : interruptCycles[c]? = some act) :
    Quiet act ∧ (c ≠ 7 → ∀ u, (act u).istat = u.istat) ∧
      (∀ u, (act u).istat = u.istat ∨
        (c = 7 ∧ (act u).istat = .none ∧ (u.istat = .irq ∨ u.cfg.nmiClearsLatch = true))) ∧
      ∀ u, u.irqAck = false → (act u).irqAck = decide (c = 0) := by
  have quiet {act : Action} (h1 : ∀ u, (act u).cfg = u.cfg ∧ (act u).mem = u.mem ∧ (act u).accepted = u.accepted ∧
      (act u).lines = u.lines ∧ (act u).stim = u.stim ∧ (act u).nmiPrev = u.nmiPrev)
      (h2 : ∀ u, (act u).ioEnable = u.ioEnable) : Quiet act :=
    ⟨fun u => (h1 u).1, fun u => (h1 u).2.1, fun u => (h1 u).2.2.1, fun u => (h1 u).2.2.2.1, fun u => (h1 u).2.2.2.2.1,
      fun u => (h1 u).2.2.2.2.2, fun u _ h => by rw [h2, h]; simp⟩
  match c with
  | 0 =>
    obtain rfl := Option.some.inj h
    exact ⟨quiet (fun _ => ⟨rfl, rfl, rfl, rfl, rfl, rfl⟩) (fun _ => rfl), fun _ _ => rfl, fun _ => .inl rfl, fun _ _ => rfl⟩
  | 1 | 2 | 3 | 4 | 5 | 6 =>
    obtain rfl := Option.some.inj h
    exact ⟨quiet (fun _ => ⟨rfl, rfl, rfl, rfl, rfl, rfl⟩) (fun _ => rfl), fun _ _ => rfl, fun _ => .inl rfl, fun _ h => h⟩
  | 7 =>
    obtain rfl := Option.some.inj h
    refine ⟨quiet (fun _ => ⟨rfl, rfl, rfl, rfl, rfl, rfl⟩) (fun _ => rfl), fun h => absurd rfl h, fun u => ?_, fun _ h => h⟩
    simp only
    split
    · rename_i hu
      exact .inr (by simpa using hu)
    · exact .inl rfl
  | c + 8 => simp [interruptCycles] at h

theorem phase_cases (p : Phase) : p = .reset ∨ p = .fetch ∨ p = .halt ∨ p = .execute ∨ p = .interrupt := by
  cases p <;> simp

theorem cycle_reset {s : State} (h : s.phase = .reset) : cycle s = tickAt resetCycles s := by simp [cycle, h]

theorem cycle_fetch {s : State} (h : s.phase = .fetch) : cycle s = tickAt fetchCycles s := by simp [cycle, h]

theorem cycle_execute {s : State} (h : s.phase = .execute) : cycle s = executeCycle s := by simp [cycle, h]

theorem cycle_interrupt {s : State} (h : s.phase = .interrupt) : cycle s = tickAt interruptCycles s := by simp [cycle, h]

theorem cycle_halt {s : State} (h : s.phase = .halt) : cycle s = tick haltCycle s := by simp [cycle, h]

/-- Every cycle is one tick of an action that leaves alone what `Quiet` says, writes the latch in Interrupt cycle 8 only and
drives the acknowledge line in Interrupt cycle 1 only (R120). -/
theorem cycle_action (s : State) : ∃ act, cycle s = tick act s ∧ Quiet act ∧
    (∀ u, (act u).istat = u.istat ∨ (s.phase = .interrupt ∧ s.cyc = 8 ∧ (act u).istat = .none ∧
      (u.istat = .irq ∨ u.cfg.nmiClearsLatch = true))) ∧
    ∀ u, u.irqAck = false → (act u).irqAck = decide (s.phase = .interrupt ∧ s.cyc = 1) := by
  have plain {act : Action} (hp : Plain act) (hph : s.phase ≠ .interrupt) :
      Quiet act ∧ (∀ u, (act u).istat = u.istat ∨ (s.phase = .interrupt ∧ s.cyc = 8 ∧ (act u).istat = .none ∧
        (u.istat = .irq ∨ u.cfg.nmiClearsLatch = true))) ∧
      ∀ u, u.irqAck = false → (act u).irqAck = decide (s.phase = .interrupt ∧ s.cyc = 1) :=
    ⟨hp.toQuiet, fun u => .inl (hp.istat u), fun u h => by rw [hp.irqAck, h]; simp [hph]⟩
  have outside (hc : ¬(s.phase = .interrupt ∧ s.cyc = 1)) :
      Quiet (fun t => raise (.seqRange s.phase s.cyc) t) ∧
      (∀ u : State, (raise (.seqRange s.phase s.cyc) u).istat = u.istat ∨ (s.phase = .interrupt ∧ s.cyc = 8 ∧
        (raise (.seqRange s.phase s.cyc) u).istat = .none ∧ (u.istat = .irq ∨ u.cfg.nmiClearsLatch = true))) ∧
      ∀ u : State, u.irqAck = false → (raise (.seqRange s.phase s.cyc) u).irqAck =
        decide (s.phase = .interrupt ∧ s.cyc = 1) :=
    ⟨(plain_raise _).toQuiet, fun _ => .inl rfl, fun _ h => by rw [raise_irqAck, h]; simp [hc]⟩
  have list (acts : List Action) (ha : AllPlain acts) (hph : s.phase ≠ .interrupt) :
      ∃ act, tickAt acts s = tick act s ∧ Quiet act ∧
        (∀ u, (act u).istat = u.istat ∨ (s.phase = .interrupt ∧ s.cyc = 8 ∧ (act u).istat = .none ∧
          (u.istat = .irq ∨ u.cfg.nmiClearsLatch = true))) ∧
        ∀ u, u.irqAck = false → (act u).irqAck = decide (s.phase = .interrupt ∧ s.cyc = 1) := by
    unfold tickAt
    split
    · exact ⟨_, rfl, outside (by simp [hph])⟩
    · split
      · rename_i act hact
        exact ⟨act, rfl, plain (ha act (List.mem_of_getElem? hact)) hph⟩
      · exact ⟨_, rfl, outside (by simp [hph])⟩
  rcases phase_cases s.phase with hp | hp | hp | hp | hp
  · rw [cycle_reset hp]; exact list _ plain_reset (by simp [hp])
  · rw [cycle_fetch hp]; exact list _ plain_fetch (by simp [hp])
  · rw [cycle_halt hp]; exact ⟨_, rfl, plain plain_halt (by simp [hp])⟩
  · rw [cycle_execute hp]
    simp only [executeCycle]
    split
    · exact ⟨_, rfl, plain (plain_raise _) (by simp [hp])⟩
    · split
      · exact list _ (allPlain_append (plain_operand _ _) (plain_schedule _)) (by simp [hp])
      · exact ⟨_, rfl, plain (plain_raise _) (by simp [hp])⟩
  · rw [cycle_interrupt hp]
    unfold tickAt
    split
    · rename_i hc
      exact ⟨_, rfl, outside (by simp [hc])⟩
    · rename_i c hc
      split
      · rename_i act ha
        obtain ⟨h1, -, h3, h4⟩ := interrupt_action ha
        refine ⟨act, rfl, h1, fun u => ?_, fun u hu => ?_⟩
        · rcases h3 u with h | ⟨h, h'⟩
          · exact .inl h
          · exact .inr ⟨hp, by omega, h'⟩
        · rw [h4 u hu]
          simp [hp, hc]
      · rename_i ha
        refine ⟨_, rfl, outside ?_⟩
        rintro ⟨-, h⟩
        obtain rfl : c = 0 := by omega
        simp [interruptCycles] at ha

end Sys2Proof.Laws
end

