-- ==== Sys2Proof/Laws/PerInstr.lean ====
section
/-! SUPPORT. The per-instruction family `EncodedLength`: the encoding of an instruction has the length of R102 (spec 30_encoding.md R90, R102). -/

namespace Sys2Proof.Laws

/-- The operand bytes are as many as the mode has (R90). -/
theorem length_operandBytesOf (f : Fields) (mn : Mnemonic) (mode : Mode) :
    (operandBytesOf f (operandSize mn mode)).length = operandSize mn mode := by
  cases mode <;> simp only [operandSize]
  · rfl
  · split <;> rfl
  · rfl
  · rfl

/-- Under every configuration, an encoding of the instruction has the length of R102. -/
def EncodedLength.Statement (i : Instr) : Prop := ∀ cfg bs, encode cfg i = some bs → bs.length = i.length

/-- The statement, for any instruction. -/
theorem encodedLength_all (i : Instr) : EncodedLength.Statement i := by
  intro cfg bs h
  unfold encode at h
  split at h
  · simp at h
  · simp only [Option.some.injEq] at h
    subst h
    simp [length_operandBytesOf, Instr.length, instrLength]
    omega

theorem EncodedLength.addImm (r1 : Selector) (imm : Word) : EncodedLength.Statement (.addImm r1 imm) :=
  encodedLength_all _

theorem EncodedLength.addReg (r1 : Selector) (r2 : Selector) : EncodedLength.Statement (.addReg r1 r2) :=
  encodedLength_all _

theorem EncodedLength.addAbs (r1 : Selector) (m : AbsOperand) : EncodedLength.Statement (.addAbs r1 m) :=
  encodedLength_all _

theorem EncodedLength.addbImm (r1 : Selector) (imm : Byte) : EncodedLength.Statement (.addbImm r1 imm) :=
  encodedLength_all _

theorem EncodedLength.addbReg (r1 : Selector) (r2 : Selector) : EncodedLength.Statement (.addbReg r1 r2) :=
  encodedLength_all _

theorem EncodedLength.addbAbs (r1 : Selector) (m : AbsOperand) : EncodedLength.Statement (.addbAbs r1 m) :=
  encodedLength_all _

theorem EncodedLength.subImm (r1 : Selector) (imm : Word) : EncodedLength.Statement (.subImm r1 imm) :=
  encodedLength_all _

theorem EncodedLength.subReg (r1 : Selector) (r2 : Selector) : EncodedLength.Statement (.subReg r1 r2) :=
  encodedLength_all _

theorem EncodedLength.subAbs (r1 : Selector) (m : AbsOperand) : EncodedLength.Statement (.subAbs r1 m) :=
  encodedLength_all _

theorem EncodedLength.subbImm (r1 : Selector) (imm : Byte) : EncodedLength.Statement (.subbImm r1 imm) :=
  encodedLength_all _

theorem EncodedLength.subbReg (r1 : Selector) (r2 : Selector) : EncodedLength.Statement (.subbReg r1 r2) :=
  encodedLength_all _

theorem EncodedLength.subbAbs (r1 : Selector) (m : AbsOperand) : EncodedLength.Statement (.subbAbs r1 m) :=
  encodedLength_all _

theorem EncodedLength.inc (r1 : Selector) : EncodedLength.Statement (.inc r1) :=
  encodedLength_all _

theorem EncodedLength.incb (r1 : Selector) : EncodedLength.Statement (.incb r1) :=
  encodedLength_all _

theorem EncodedLength.dec (r1 : Selector) : EncodedLength.Statement (.dec r1) :=
  encodedLength_all _

theorem EncodedLength.decb (r1 : Selector) : EncodedLength.Statement (.decb r1) :=
  encodedLength_all _

theorem EncodedLength.andImm (r1 : Selector) (imm : Word) : EncodedLength.Statement (.andImm r1 imm) :=
  encodedLength_all _

theorem EncodedLength.andReg (r1 : Selector) (r2 : Selector) : EncodedLength.Statement (.andReg r1 r2) :=
  encodedLength_all _

theorem EncodedLength.andAbs (r1 : Selector) (m : AbsOperand) : EncodedLength.Statement (.andAbs r1 m) :=
  encodedLength_all _

theorem EncodedLength.andbImm (r1 : Selector) (imm : Byte) : EncodedLength.Statement (.andbImm r1 imm) :=
  encodedLength_all _

theorem EncodedLength.andbReg (r1 : Selector) (r2 : Selector) : EncodedLength.Statement (.andbReg r1 r2) :=
  encodedLength_all _

theorem EncodedLength.andbAbs (r1 : Selector) (m : AbsOperand) : EncodedLength.Statement (.andbAbs r1 m) :=
  encodedLength_all _

theorem EncodedLength.orImm (r1 : Selector) (imm : Word) : EncodedLength.Statement (.orImm r1 imm) :=
  encodedLength_all _

theorem EncodedLength.orReg (r1 : Selector) (r2 : Selector) : EncodedLength.Statement (.orReg r1 r2) :=
  encodedLength_all _

theorem EncodedLength.orAbs (r1 : Selector) (m : AbsOperand) : EncodedLength.Statement (.orAbs r1 m) :=
  encodedLength_all _

theorem EncodedLength.orbImm (r1 : Selector) (imm : Byte) : EncodedLength.Statement (.orbImm r1 imm) :=
  encodedLength_all _

theorem EncodedLength.orbReg (r1 : Selector) (r2 : Selector) : EncodedLength.Statement (.orbReg r1 r2) :=
  encodedLength_all _

theorem EncodedLength.orbAbs (r1 : Selector) (m : AbsOperand) : EncodedLength.Statement (.orbAbs r1 m) :=
  encodedLength_all _

theorem EncodedLength.xorImm (r1 : Selector) (imm : Word) : EncodedLength.Statement (.xorImm r1 imm) :=
  encodedLength_all _

theorem EncodedLength.xorReg (r1 : Selector) (r2 : Selector) : EncodedLength.Statement (.xorReg r1 r2) :=
  encodedLength_all _

theorem EncodedLength.xorAbs (r1 : Selector) (m : AbsOperand) : EncodedLength.Statement (.xorAbs r1 m) :=
  encodedLength_all _

theorem EncodedLength.xorbImm (r1 : Selector) (imm : Byte) : EncodedLength.Statement (.xorbImm r1 imm) :=
  encodedLength_all _

theorem EncodedLength.xorbReg (r1 : Selector) (r2 : Selector) : EncodedLength.Statement (.xorbReg r1 r2) :=
  encodedLength_all _

theorem EncodedLength.xorbAbs (r1 : Selector) (m : AbsOperand) : EncodedLength.Statement (.xorbAbs r1 m) :=
  encodedLength_all _

theorem EncodedLength.not (r1 : Selector) : EncodedLength.Statement (.not r1) :=
  encodedLength_all _

theorem EncodedLength.notb (r1 : Selector) : EncodedLength.Statement (.notb r1) :=
  encodedLength_all _

theorem EncodedLength.shl (r1 : Selector) : EncodedLength.Statement (.shl r1) :=
  encodedLength_all _

theorem EncodedLength.shlb (r1 : Selector) : EncodedLength.Statement (.shlb r1) :=
  encodedLength_all _

theorem EncodedLength.shr (r1 : Selector) : EncodedLength.Statement (.shr r1) :=
  encodedLength_all _

theorem EncodedLength.shrb (r1 : Selector) : EncodedLength.Statement (.shrb r1) :=
  encodedLength_all _

theorem EncodedLength.rol (r1 : Selector) : EncodedLength.Statement (.rol r1) :=
  encodedLength_all _

theorem EncodedLength.rolb (r1 : Selector) : EncodedLength.Statement (.rolb r1) :=
  encodedLength_all _

theorem EncodedLength.ror (r1 : Selector) : EncodedLength.Statement (.ror r1) :=
  encodedLength_all _

theorem EncodedLength.rorb (r1 : Selector) : EncodedLength.Statement (.rorb r1) :=
  encodedLength_all _

theorem EncodedLength.cmpImm (r1 : Selector) (imm : Word) : EncodedLength.Statement (.cmpImm r1 imm) :=
  encodedLength_all _

theorem EncodedLength.cmpReg (r1 : Selector) (r2 : Selector) : EncodedLength.Statement (.cmpReg r1 r2) :=
  encodedLength_all _

theorem EncodedLength.cmpAbs (r1 : Selector) (m : AbsOperand) : EncodedLength.Statement (.cmpAbs r1 m) :=
  encodedLength_all _

theorem EncodedLength.cmpbImm (r1 : Selector) (imm : Byte) : EncodedLength.Statement (.cmpbImm r1 imm) :=
  encodedLength_all _

theorem EncodedLength.cmpbReg (r1 : Selector) (r2 : Selector) : EncodedLength.Statement (.cmpbReg r1 r2) :=
  encodedLength_all _

theorem EncodedLength.cmpbAbs (r1 : Selector) (m : AbsOperand) : EncodedLength.Statement (.cmpbAbs r1 m) :=
  encodedLength_all _

theorem EncodedLength.movImm (r1 : Selector) (imm : Word) : EncodedLength.Statement (.movImm r1 imm) :=
  encodedLength_all _

theorem EncodedLength.movReg (r1 : Selector) (r2 : Selector) : EncodedLength.Statement (.movReg r1 r2) :=
  encodedLength_all _

theorem EncodedLength.movAbs (r1 : Selector) (m : AbsOperand) : EncodedLength.Statement (.movAbs r1 m) :=
  encodedLength_all _

theorem EncodedLength.movbImm (r1 : Selector) (imm : Byte) : EncodedLength.Statement (.movbImm r1 imm) :=
  encodedLength_all _

theorem EncodedLength.movbReg (r1 : Selector) (r2 : Selector) : EncodedLength.Statement (.movbReg r1 r2) :=
  encodedLength_all _

theorem EncodedLength.movbAbs (r1 : Selector) (m : AbsOperand) : EncodedLength.Statement (.movbAbs r1 m) :=
  encodedLength_all _

theorem EncodedLength.str (r1 : Selector) (m : AbsOperand) : EncodedLength.Statement (.str r1 m) :=
  encodedLength_all _

theorem EncodedLength.strb (r1 : Selector) (m : AbsOperand) : EncodedLength.Statement (.strb r1 m) :=
  encodedLength_all _

theorem EncodedLength.push (r1 : Selector) : EncodedLength.Statement (.push r1) :=
  encodedLength_all _

theorem EncodedLength.pushb (r1 : Selector) : EncodedLength.Statement (.pushb r1) :=
  encodedLength_all _

theorem EncodedLength.pop (r1 : Selector) : EncodedLength.Statement (.pop r1) :=
  encodedLength_all _

theorem EncodedLength.popb (r1 : Selector) : EncodedLength.Statement (.popb r1) :=
  encodedLength_all _

theorem EncodedLength.jmp (m : AbsOperand) : EncodedLength.Statement (.jmp m) :=
  encodedLength_all _

theorem EncodedLength.jsr (m : AbsOperand) : EncodedLength.Statement (.jsr m) :=
  encodedLength_all _

theorem EncodedLength.rts : EncodedLength.Statement (.rts) :=
  encodedLength_all _

theorem EncodedLength.rti : EncodedLength.Statement (.rti) :=
  encodedLength_all _

theorem EncodedLength.beq (m : AbsOperand) : EncodedLength.Statement (.beq m) :=
  encodedLength_all _

theorem EncodedLength.bne (m : AbsOperand) : EncodedLength.Statement (.bne m) :=
  encodedLength_all _

theorem EncodedLength.bcs (m : AbsOperand) : EncodedLength.Statement (.bcs m) :=
  encodedLength_all _

theorem EncodedLength.bcc (m : AbsOperand) : EncodedLength.Statement (.bcc m) :=
  encodedLength_all _

theorem EncodedLength.bmi (m : AbsOperand) : EncodedLength.Statement (.bmi m) :=
  encodedLength_all _

theorem EncodedLength.bpl (m : AbsOperand) : EncodedLength.Statement (.bpl m) :=
  encodedLength_all _

theorem EncodedLength.bvs (m : AbsOperand) : EncodedLength.Statement (.bvs m) :=
  encodedLength_all _

theorem EncodedLength.bvc (m : AbsOperand) : EncodedLength.Statement (.bvc m) :=
  encodedLength_all _

theorem EncodedLength.blt (m : AbsOperand) : EncodedLength.Statement (.blt m) :=
  encodedLength_all _

theorem EncodedLength.bgt (m : AbsOperand) : EncodedLength.Statement (.bgt m) :=
  encodedLength_all _

theorem EncodedLength.sec : EncodedLength.Statement (.sec) :=
  encodedLength_all _

theorem EncodedLength.clc : EncodedLength.Statement (.clc) :=
  encodedLength_all _

theorem EncodedLength.sei : EncodedLength.Statement (.sei) :=
  encodedLength_all _

theorem EncodedLength.cli : EncodedLength.Statement (.cli) :=
  encodedLength_all _

theorem EncodedLength.clv : EncodedLength.Statement (.clv) :=
  encodedLength_all _

theorem EncodedLength.inImm (r1 : Selector) (port : Byte) : EncodedLength.Statement (.inImm r1 port) :=
  encodedLength_all _

theorem EncodedLength.inReg (r1 : Selector) (r2 : Selector) : EncodedLength.Statement (.inReg r1 r2) :=
  encodedLength_all _

theorem EncodedLength.outImm (r1 : Selector) (port : Byte) : EncodedLength.Statement (.outImm r1 port) :=
  encodedLength_all _

theorem EncodedLength.outReg (r1 : Selector) (r2 : Selector) : EncodedLength.Statement (.outReg r1 r2) :=
  encodedLength_all _

theorem EncodedLength.nop : EncodedLength.Statement (.nop) :=
  encodedLength_all _

theorem EncodedLength.hlt : EncodedLength.Statement (.hlt) :=
  encodedLength_all _

end Sys2Proof.Laws
end

