-- ==== Sys2Proof/Tests/Slice0.lean ====
section
/-! SUPPORT. Tests of the model: the validity checks, the decoding of a word of every constructor, one step per vector of spec 95_test_vectors.md section 2, and a witness for the hypotheses of each statement. Expected results come from the spec. -/

namespace Sys2Proof.Tests

open Sys2Proof.Machine

/-! ## Helpers -/

def noFlags : Flags := ⟨false, false, false, false, false, false, false⟩

/-- The names of the flags. -/
inductive FlagName where
  | z | n | c | v | lt | gt | i
  deriving DecidableEq, Repr

/-- The listed flags 1, the others 0. -/
def on (l : List FlagName) : Flags :=
  ⟨l.contains .z, l.contains .n, l.contains .c, l.contains .v, l.contains .lt, l.contains .gt, l.contains .i⟩

/-- The engine at Fetch cycle 1 with these bytes in ROM at 0x000100 (spec 95 section 2: "start"). -/
def at100 (bytes : List Byte) (regs : Regs) (flags : Flags) (sp : Word) (ram : Memory) : State :=
  { State.reset with
    phase := .fetch, pc := 0x000100, regs := regs, flags := flags, sp := sp
    mem := writeBytes Config.reference.platform ram 0x000100 bytes }

/-- The engine with the operand bytes of a 6-byte instruction at 0x000100 read. -/
def ready (regs : Regs) (flags : Flags) (sp : Word) (ram : Memory) : State :=
  { State.reset with phase := .execute, pc := 0x000106, regs := regs, flags := flags, sp := sp, mem := ram }

/-- The state a result leaves. -/
def left (r : Result) : State :=
  match r with
  | .next t => t
  | .fault f => f.final
  | .refused _ => State.reset

/-- What a test looks at: registers, flags, pc, sp, fault code (0: none) and the bytes at some addresses. -/
structure Obs where
  regs : Regs
  flags : Flags
  pc : Addr
  sp : Word
  fault : Nat
  bytes : List (Option Byte)
  deriving DecidableEq, Repr

/-- What a test sees of the state a result leaves. -/
def obs (r : Result) (addrs : List Addr) : Obs :=
  let t := left r
  ⟨t.regs, t.flags, t.pc, t.sp, (t.fault.map FaultReg.code).getD 0, addrs.map (readByte t)⟩

/-- The next state, if there is one, has the property. -/
def nextHas (r : Result) (p : State → Bool) : Bool :=
  match r with
  | .next t => p t
  | .fault _ => false
  | .refused _ => false

theorem nextHas_spec {r : Result} {p : State → Bool} (h : nextHas r p = true) : ∃ t, r = .next t ∧ p t = true := by
  cases r with
  | next t => exact ⟨t, rfl, h⟩
  | fault f => simp [nextHas] at h
  | refused f => simp [nextHas] at h

/-- Each list of bytes decodes to its instruction under the default parameters, and nothing is left over. -/
def decodesAll (l : List (List Byte × Instr)) : Bool :=
  l.all (fun p => decide (decode Config.reference p.1 = .ok (p.2, [])))

/-! ## Validity checks: each refuses an ill-formed term -/

theorem test_reference_wf : Config.reference.wf = true := by decide

theorem test_row_unknown_mnemonic : OpRow.wf { opcode := 0x05, mnemonic := none, mode := .immediate, isByte := false, size := 5 } = false := by decide

theorem test_row_illegal_mode : OpRow.wf { opcode := 0x17, mnemonic := some .inc, mode := .absolute, isByte := false, size := 6 } = false := by decide

theorem test_row_wrong_width : OpRow.wf { opcode := 0x05, mnemonic := some .add, mode := .immediate, isByte := true, size := 5 } = false := by decide

theorem test_row_wrong_size : OpRow.wf { opcode := 0x05, mnemonic := some .add, mode := .immediate, isByte := false, size := 4 } = false := by decide

theorem test_first_bad_row :
    firstBadRow [{ opcode := 0xE0, mnemonic := some .nop, mode := .implied, isByte := false, size := 3 },
      { opcode := 0x77, mnemonic := some .str, mode := .register, isByte := false, size := 3 },
      { opcode := 0x05, mnemonic := none, mode := .immediate, isByte := false, size := 5 }] = some 0x77 := by
  decide

theorem test_duplicate_opcode :
    opcodesDistinct [{ opcode := 0xE0, mnemonic := some .nop, mode := .implied, isByte := false, size := 3 },
      { opcode := 0xE0, mnemonic := some .hlt, mode := .implied, isByte := false, size := 3 }] = false := by
  decide

/-- An image longer than its device is refused (R77), and so is one with no device at ROM_BASE. -/
theorem test_image_too_long :
    imageFits { devices := [{ referenceRom with size := 2 }], ioDevices := [], romBase := 0, image := [1, 2, 3] } = false ∧
    imageFits { devices := [{ referenceRom with size := 3 }], ioDevices := [], romBase := 0, image := [1, 2, 3] } = true ∧
    imageFits { devices := [], ioDevices := [], romBase := 0, image := [1] } = false := by
  decide

theorem test_meta_layout_overlap : MetaLayout.wf { r1 := 12, r2 := 9, x := 7, s := 6, disp := 0 } = false := by decide

theorem test_meta_layout_range : MetaLayout.wf { r1 := 13, r2 := 8, x := 7, s := 6, disp := 0 } = false := by decide

theorem test_half_layout : HalfSelLayout.wf { regHi := 2, regLo := 2, half := 0, highWhen := false } = false := by decide

theorem test_flag_layout :
    FlagLayout.wf { z := 0, n := 0, c := 2, v := 3, lt := 4, gt := 5, i := 6 } = false := by
  decide

theorem test_instr_without_opcode : Instr.wf { Config.reference with opcodeTable := [] } .nop = false := by decide

theorem test_instr_with_opcode : Instr.wf Config.reference .nop = true := by decide

/-! ## Decoding: a word of every constructor, written out from the encoding tables -/

/-- The words of the arith rows, from R98, R92 and R90. -/
theorem test_decode_arith : decodesAll [
    ([0x05, 0x50, 0x00, 0x13, 0xF0], .addImm 5 0x13F0),
    ([0x06, 0xA7, 0x00], .addReg 10 7),
    ([0x07, 0xFA, 0x80, 0x03, 0x83, 0x34], .addAbs 15 ⟨0x03, 0x8334, .index 10⟩),
    ([0x09, 0x40, 0x00, 0x84], .addbImm 4 0x84),
    ([0x0A, 0x90, 0x00], .addbReg 9 0),
    ([0x0B, 0xE0, 0x6A, 0x06, 0x86, 0x34], .addbAbs 14 ⟨0x06, 0x8634, .disp true 42⟩),
    ([0x0D, 0x30, 0x00, 0x19, 0xF0], .subImm 3 0x19F0),
    ([0x0E, 0x89, 0x00], .subReg 8 9),
    ([0x0F, 0xDC, 0x80, 0x09, 0x89, 0x34], .subAbs 13 ⟨0x09, 0x8934, .index 12⟩),
    ([0x11, 0x20, 0x00, 0x8A], .subbImm 2 0x8A),
    ([0x12, 0x72, 0x00], .subbReg 7 2),
    ([0x13, 0xC0, 0x14, 0x0C, 0x8C, 0x34], .subbAbs 12 ⟨0x0C, 0x8C34, .disp false 20⟩),
    ([0x16, 0x10, 0x00], .inc 1),
    ([0x1A, 0x60, 0x00], .incb 6),
    ([0x1E, 0xB0, 0x00], .dec 11),
    ([0x22, 0x00, 0x00], .decb 0)] = true := by
  decide

/-- The words of the logic rows, from R98, R92 and R90. -/
theorem test_decode_logic : decodesAll [
    ([0x25, 0x50, 0x00, 0x23, 0xF0], .andImm 5 0x23F0),
    ([0x26, 0xA7, 0x00], .andReg 10 7),
    ([0x27, 0xFA, 0x80, 0x13, 0x93, 0x34], .andAbs 15 ⟨0x13, 0x9334, .index 10⟩),
    ([0x29, 0x40, 0x00, 0x94], .andbImm 4 0x94),
    ([0x2A, 0x90, 0x00], .andbReg 9 0),
    ([0x2B, 0xE0, 0x5A, 0x16, 0x96, 0x34], .andbAbs 14 ⟨0x16, 0x9634, .disp true 26⟩),
    ([0x2D, 0x30, 0x00, 0x29, 0xF0], .orImm 3 0x29F0),
    ([0x2E, 0x89, 0x00], .orReg 8 9),
    ([0x2F, 0xDC, 0x80, 0x19, 0x99, 0x34], .orAbs 13 ⟨0x19, 0x9934, .index 12⟩),
    ([0x31, 0x20, 0x00, 0x9A], .orbImm 2 0x9A),
    ([0x32, 0x72, 0x00], .orbReg 7 2),
    ([0x33, 0xC0, 0x04, 0x1C, 0x9C, 0x34], .orbAbs 12 ⟨0x1C, 0x9C34, .disp false 4⟩),
    ([0x35, 0x10, 0x00, 0x2F, 0xF0], .xorImm 1 0x2FF0),
    ([0x36, 0x6B, 0x00], .xorReg 6 11),
    ([0x37, 0xBE, 0x80, 0x1F, 0x9F, 0x34], .xorAbs 11 ⟨0x1F, 0x9F34, .index 14⟩),
    ([0x39, 0x00, 0x00, 0xA0], .xorbImm 0 0xA0),
    ([0x3A, 0x54, 0x00], .xorbReg 5 4),
    ([0x3B, 0xA0, 0x6E, 0x22, 0xA2, 0x34], .xorbAbs 10 ⟨0x22, 0xA234, .disp true 46⟩),
    ([0x3E, 0xF0, 0x00], .not 15),
    ([0x42, 0x40, 0x00], .notb 4)] = true := by
  decide

/-- The words of the shift rows, from R98, R92 and R90. -/
theorem test_decode_shift : decodesAll [
    ([0x46, 0x90, 0x00], .shl 9),
    ([0x4A, 0xE0, 0x00], .shlb 14),
    ([0x4E, 0x30, 0x00], .shr 3),
    ([0x52, 0x80, 0x00], .shrb 8),
    ([0x56, 0xD0, 0x00], .rol 13),
    ([0x5A, 0x20, 0x00], .rolb 2),
    ([0x5E, 0x70, 0x00], .ror 7),
    ([0x62, 0xC0, 0x00], .rorb 12)] = true := by
  decide

/-- The words of the compare rows, from R98, R92 and R90. -/
theorem test_decode_compare : decodesAll [
    ([0x65, 0x10, 0x00, 0x3F, 0xF0], .cmpImm 1 0x3FF0),
    ([0x66, 0x6B, 0x00], .cmpReg 6 11),
    ([0x67, 0xBE, 0x80, 0x2F, 0xAF, 0x34], .cmpAbs 11 ⟨0x2F, 0xAF34, .index 14⟩),
    ([0x69, 0x00, 0x00, 0xB0], .cmpbImm 0 0xB0),
    ([0x6A, 0x54, 0x00], .cmpbReg 5 4),
    ([0x6B, 0xA0, 0x5E, 0x32, 0xB2, 0x34], .cmpbAbs 10 ⟨0x32, 0xB234, .disp true 30⟩)] = true := by
  decide

/-- The words of the move rows, from R98, R92 and R90. -/
theorem test_decode_move : decodesAll [
    ([0x6D, 0xF0, 0x00, 0x45, 0xF0], .movImm 15 0x45F0),
    ([0x6E, 0x4D, 0x00], .movReg 4 13),
    ([0x6F, 0x90, 0x80, 0x35, 0xB5, 0x34], .movAbs 9 ⟨0x35, 0xB534, .index 0⟩),
    ([0x71, 0xE0, 0x00, 0xB6], .movbImm 14 0xB6),
    ([0x72, 0x36, 0x00], .movbReg 3 6),
    ([0x73, 0x80, 0x08, 0x38, 0xB8, 0x34], .movbAbs 8 ⟨0x38, 0xB834, .disp false 8⟩),
    ([0x77, 0xDC, 0x80, 0x39, 0xB9, 0x34], .str 13 ⟨0x39, 0xB934, .index 12⟩),
    ([0x7B, 0x20, 0x56, 0x3A, 0xBA, 0x34], .strb 2 ⟨0x3A, 0xBA34, .disp true 22⟩)] = true := by
  decide

/-- The words of the stack rows, from R98, R92 and R90. -/
theorem test_decode_stack : decodesAll [
    ([0x7E, 0x70, 0x00], .push 7),
    ([0x82, 0xC0, 0x00], .pushb 12),
    ([0x86, 0x10, 0x00], .pop 1),
    ([0x8A, 0x60, 0x00], .popb 6)] = true := by
  decide

/-- The words of the control rows, from R98, R92 and R90. -/
theorem test_decode_control : decodesAll [
    ([0x8F, 0x0E, 0x80, 0x3F, 0xBF, 0x34], .jmp ⟨0x3F, 0xBF34, .index 14⟩),
    ([0x93, 0x00, 0x00, 0x40, 0xC0, 0x34], .jsr ⟨0x40, 0xC034, .disp false 0⟩),
    ([0x94, 0x00, 0x00], .rts),
    ([0x98, 0x00, 0x00], .rti),
    ([0x9F, 0x0A, 0x80, 0x43, 0xC3, 0x34], .beq ⟨0x43, 0xC334, .index 10⟩),
    ([0xA3, 0x00, 0x1C, 0x44, 0xC4, 0x34], .bne ⟨0x44, 0xC434, .disp false 28⟩),
    ([0xA7, 0x00, 0x80, 0x45, 0xC5, 0x34], .bcs ⟨0x45, 0xC534, .index 0⟩),
    ([0xAB, 0x00, 0x6A, 0x46, 0xC6, 0x34], .bcc ⟨0x46, 0xC634, .disp true 42⟩),
    ([0xAF, 0x06, 0x80, 0x47, 0xC7, 0x34], .bmi ⟨0x47, 0xC734, .index 6⟩),
    ([0xB3, 0x00, 0x38, 0x48, 0xC8, 0x34], .bpl ⟨0x48, 0xC834, .disp false 56⟩),
    ([0xB7, 0x0C, 0x80, 0x49, 0xC9, 0x34], .bvs ⟨0x49, 0xC934, .index 12⟩),
    ([0xBB, 0x00, 0x46, 0x4A, 0xCA, 0x34], .bvc ⟨0x4A, 0xCA34, .disp true 6⟩),
    ([0xBF, 0x02, 0x80, 0x4B, 0xCB, 0x34], .blt ⟨0x4B, 0xCB34, .index 2⟩),
    ([0xC3, 0x00, 0x14, 0x4C, 0xCC, 0x34], .bgt ⟨0x4C, 0xCC34, .disp false 20⟩)] = true := by
  decide

/-- The words of the flag rows, from R98, R92 and R90. -/
theorem test_decode_flag : decodesAll [
    ([0xC4, 0x00, 0x00], .sec),
    ([0xC8, 0x00, 0x00], .clc),
    ([0xCC, 0x00, 0x00], .sei),
    ([0xD0, 0x00, 0x00], .cli),
    ([0xD4, 0x00, 0x00], .clv)] = true := by
  decide

/-- The words of the system rows, from R98, R92 and R90. -/
theorem test_decode_system : decodesAll [
    ([0xD9, 0xA0, 0x00, 0xD2], .inImm 10 0xD2),
    ([0xDA, 0xFA, 0x00], .inReg 15 10),
    ([0xDD, 0x40, 0x00, 0xD4], .outImm 4 0xD4),
    ([0xDE, 0x90, 0x00], .outReg 9 0),
    ([0xE0, 0x00, 0x00], .nop),
    ([0xE4, 0x00, 0x00], .hlt)] = true := by
  decide

/-- Unassigned opcodes are rejected by name (R104). -/
theorem test_decode_unassigned :
    ([0x00, 0x03, 0x04, 0x14, 0x74, 0xDC, 0xE8, 0xFF] : List Byte).all
      (fun op => decide (decode Config.reference [op, 0, 0, 0, 0, 0] = .error (.unknownOpcode op))) = true := by
  decide

theorem test_decode_truncated : decode Config.reference [0x05, 0x00, 0x00, 0x12] = .error .truncated := by decide

/-- A table word has the first byte in its low bits. -/
theorem test_table_word : decodeTableWord 40 0x341200006D = some (.movImm 0 0x1234) := by decide

/-- The table may give an instruction fewer bits than it has: operand bytes of zeros. -/
theorem test_table_word_short : decodeTableWord 24 0x00103F = none ∧ decodeTableWord 24 0x801077 = some (.str 1 ⟨0, 0, .index 0⟩) := by
  decide

/-! ## One step per vector (spec 95_test_vectors.md section 2) -/

/-- A1: `ADD A, B`. -/
theorem test_A1_add :
    obs (step (at100 [0x06, 0x01, 0x00] ⟨0x8000, 0x8000, 0, 0⟩ noFlags 0 [])) [] =
      ⟨⟨0x0000, 0x8000, 0, 0⟩, (on [.z, .c, .v]), 0x000103, 0, 0, []⟩ := by
  decide

/-- A2: `ADD A, #0x0001`. -/
theorem test_A2_add :
    obs (step (at100 [0x05, 0x00, 0x00, 0x00, 0x01] ⟨0x7FFF, 0, 0, 0⟩ noFlags 0 [])) [] =
      ⟨⟨0x8000, 0, 0, 0⟩, (on [.n, .v]), 0x000105, 0, 0, []⟩ := by
  decide

/-- A7: `ADDB AL, #0x01`. -/
theorem test_A7_addb :
    obs (step (at100 [0x09, 0x90, 0x00, 0x01] ⟨0x127F, 0, 0, 0⟩ noFlags 0 [])) [] =
      ⟨⟨0x1280, 0, 0, 0⟩, (on [.n, .v]), 0x000104, 0, 0, []⟩ := by
  decide

/-- A8: `ADDB A, B`. -/
theorem test_A8_addb :
    obs (step (at100 [0x0A, 0x01, 0x00] ⟨0x12F0, 0x0020, 0, 0⟩ noFlags 0 [])) [] =
      ⟨⟨0x0010, 0x0020, 0, 0⟩, (on [.c]), 0x000103, 0, 0, []⟩ := by
  decide

/-- A10: `SUB A, #0x0001`. -/
theorem test_A10_sub :
    obs (step (at100 [0x0D, 0x00, 0x00, 0x00, 0x01] ⟨0x8000, 0, 0, 0⟩ noFlags 0 [])) [] =
      ⟨⟨0x7FFF, 0, 0, 0⟩, (on [.v]), 0x000105, 0, 0, []⟩ := by
  decide

/-- A11: `SUB A, A`. -/
theorem test_A11_sub :
    obs (step (at100 [0x0E, 0x00, 0x00] ⟨0x1234, 0, 0, 0⟩ (on [.c, .v]) 0 [])) [] =
      ⟨⟨0x0000, 0, 0, 0⟩, (on [.z]), 0x000103, 0, 0, []⟩ := by
  decide

/-- A13: `SUBB AL, #0xFF`. -/
theorem test_A13_subb :
    obs (step (at100 [0x11, 0x90, 0x00, 0xFF] ⟨0x3400, 0, 0, 0⟩ noFlags 0 [])) [] =
      ⟨⟨0x3401, 0, 0, 0⟩, (on [.c]), 0x000104, 0, 0, []⟩ := by
  decide

/-- A14: `SUBB A, B`. -/
theorem test_A14_subb :
    obs (step (at100 [0x12, 0x01, 0x00] ⟨0x1280, 0x0001, 0, 0⟩ noFlags 0 [])) [] =
      ⟨⟨0x007F, 0x0001, 0, 0⟩, (on [.v]), 0x000103, 0, 0, []⟩ := by
  decide

/-- A15: `INC A`. -/
theorem test_A15_inc :
    obs (step (at100 [0x16, 0x00, 0x00] ⟨0x7FFF, 0, 0, 0⟩ (on [.c]) 0 [])) [] =
      ⟨⟨0x8000, 0, 0, 0⟩, (on [.n, .c]), 0x000103, 0, 0, []⟩ := by
  decide

/-- A16: `INCB AL`. -/
theorem test_A16_incb :
    obs (step (at100 [0x1A, 0x90, 0x00] ⟨0x12FF, 0, 0, 0⟩ noFlags 0 [])) [] =
      ⟨⟨0x1200, 0, 0, 0⟩, (on [.z]), 0x000103, 0, 0, []⟩ := by
  decide

/-- A17: `DEC A`. -/
theorem test_A17_dec :
    obs (step (at100 [0x1E, 0x00, 0x00] ⟨0x0000, 0, 0, 0⟩ noFlags 0 [])) [] =
      ⟨⟨0xFFFF, 0, 0, 0⟩, (on [.n]), 0x000103, 0, 0, []⟩ := by
  decide

/-- A18: `DECB A`. -/
theorem test_A18_decb :
    obs (step (at100 [0x22, 0x00, 0x00] ⟨0x1201, 0, 0, 0⟩ noFlags 0 [])) [] =
      ⟨⟨0x0000, 0, 0, 0⟩, (on [.z]), 0x000103, 0, 0, []⟩ := by
  decide

/-- L1: `AND A, #0x0000`. -/
theorem test_L1_and :
    obs (step (at100 [0x25, 0x00, 0x00, 0x00, 0x00] ⟨0xFFFF, 0, 0, 0⟩ (on [.c, .v]) 0 [])) [] =
      ⟨⟨0x0000, 0, 0, 0⟩, (on [.z, .c, .v]), 0x000105, 0, 0, []⟩ := by
  decide

/-- L2: `AND A, A`. -/
theorem test_L2_and :
    obs (step (at100 [0x26, 0x00, 0x00] ⟨0x8001, 0, 0, 0⟩ noFlags 0 [])) [] =
      ⟨⟨0x8001, 0, 0, 0⟩, (on [.n]), 0x000103, 0, 0, []⟩ := by
  decide

/-- L4: `ANDB B, #0x0F`. -/
theorem test_L4_andb :
    obs (step (at100 [0x29, 0x10, 0x00, 0x0F] ⟨0, 0x12F3, 0, 0⟩ noFlags 0 [])) [] =
      ⟨⟨0, 0x0003, 0, 0⟩, noFlags, 0x000104, 0, 0, []⟩ := by
  decide

/-- L5: `OR A, #0x8000`. -/
theorem test_L5_or :
    obs (step (at100 [0x2D, 0x00, 0x00, 0x80, 0x00] ⟨0x0001, 0, 0, 0⟩ noFlags 0 [])) [] =
      ⟨⟨0x8001, 0, 0, 0⟩, (on [.n]), 0x000105, 0, 0, []⟩ := by
  decide

/-- L6: `OR AL, #0x8000`. -/
theorem test_L6_or :
    obs (step (at100 [0x2D, 0x90, 0x00, 0x80, 0x00] ⟨0x1201, 0, 0, 0⟩ noFlags 0 [])) [] =
      ⟨⟨0x1201, 0, 0, 0⟩, (on [.n]), 0x000105, 0, 0, []⟩ := by
  decide

/-- L7: `ORB AL, [0x010000+0]`. -/
theorem test_L7_orb :
    obs (step (at100 [0x33, 0x90, 0x00, 0x01, 0x00, 0x00] ⟨0x0101, 0, 0, 0⟩ noFlags 0 [(0x010000, 0x80)])) [] =
      ⟨⟨0x0181, 0, 0, 0⟩, (on [.n]), 0x000106, 0, 0, []⟩ := by
  decide

/-- L8: `XOR A, A`. -/
theorem test_L8_xor :
    obs (step (at100 [0x36, 0x00, 0x00] ⟨0x1234, 0, 0, 0⟩ noFlags 0 [])) [] =
      ⟨⟨0x0000, 0, 0, 0⟩, (on [.z]), 0x000103, 0, 0, []⟩ := by
  decide

/-- L9: `XORB CL, #0xFF`. -/
theorem test_L9_xorb :
    obs (step (at100 [0x39, 0xD0, 0x00, 0xFF] ⟨0, 0, 0xAB0F, 0⟩ noFlags 0 [])) [] =
      ⟨⟨0, 0, 0xABF0, 0⟩, (on [.n]), 0x000104, 0, 0, []⟩ := by
  decide

/-- L10: `NOT A`. -/
theorem test_L10_not :
    obs (step (at100 [0x3E, 0x00, 0x00] ⟨0xFFFF, 0, 0, 0⟩ noFlags 0 [])) [] =
      ⟨⟨0x0000, 0, 0, 0⟩, (on [.z]), 0x000103, 0, 0, []⟩ := by
  decide

/-- L11: `NOT AH`. -/
theorem test_L11_not :
    obs (step (at100 [0x3E, 0x80, 0x00] ⟨0x0F34, 0, 0, 0⟩ noFlags 0 [])) [] =
      ⟨⟨0xF034, 0, 0, 0⟩, (on [.n]), 0x000103, 0, 0, []⟩ := by
  decide

/-- L12: `NOTB AL`. -/
theorem test_L12_notb :
    obs (step (at100 [0x42, 0x90, 0x00] ⟨0x1200, 0, 0, 0⟩ noFlags 0 [])) [] =
      ⟨⟨0x12FF, 0, 0, 0⟩, (on [.n]), 0x000103, 0, 0, []⟩ := by
  decide

/-- S1: `SHL A`. -/
theorem test_S1_shl :
    obs (step (at100 [0x46, 0x00, 0x00] ⟨0x8000, 0, 0, 0⟩ noFlags 0 [])) [] =
      ⟨⟨0x0000, 0, 0, 0⟩, (on [.z, .c]), 0x000103, 0, 0, []⟩ := by
  decide

/-- S2: `SHL A`. -/
theorem test_S2_shl :
    obs (step (at100 [0x46, 0x00, 0x00] ⟨0x4000, 0, 0, 0⟩ (on [.c]) 0 [])) [] =
      ⟨⟨0x8000, 0, 0, 0⟩, (on [.n]), 0x000103, 0, 0, []⟩ := by
  decide

/-- S3: `SHLB AH`. -/
theorem test_S3_shlb :
    obs (step (at100 [0x4A, 0x80, 0x00] ⟨0xC0FF, 0, 0, 0⟩ noFlags 0 [])) [] =
      ⟨⟨0x80FF, 0, 0, 0⟩, (on [.n, .c]), 0x000103, 0, 0, []⟩ := by
  decide

/-- S5: `SHR A`. -/
theorem test_S5_shr :
    obs (step (at100 [0x4E, 0x00, 0x00] ⟨0x0001, 0, 0, 0⟩ noFlags 0 [])) [] =
      ⟨⟨0x0000, 0, 0, 0⟩, (on [.z, .c]), 0x000103, 0, 0, []⟩ := by
  decide

/-- S6: `SHR A`. -/
theorem test_S6_shr :
    obs (step (at100 [0x4E, 0x00, 0x00] ⟨0x8000, 0, 0, 0⟩ noFlags 0 [])) [] =
      ⟨⟨0x4000, 0, 0, 0⟩, noFlags, 0x000103, 0, 0, []⟩ := by
  decide

/-- S7: `SHRB AL`. -/
theorem test_S7_shrb :
    obs (step (at100 [0x52, 0x90, 0x00] ⟨0x0181, 0, 0, 0⟩ noFlags 0 [])) [] =
      ⟨⟨0x0140, 0, 0, 0⟩, (on [.c]), 0x000103, 0, 0, []⟩ := by
  decide

/-- S8: `ROL A`. -/
theorem test_S8_rol :
    obs (step (at100 [0x56, 0x00, 0x00] ⟨0x8000, 0, 0, 0⟩ noFlags 0 [])) [] =
      ⟨⟨0x0001, 0, 0, 0⟩, (on [.c]), 0x000103, 0, 0, []⟩ := by
  decide

/-- S9: `ROL A`. -/
theorem test_S9_rol :
    obs (step (at100 [0x56, 0x00, 0x00] ⟨0xFFFF, 0, 0, 0⟩ noFlags 0 [])) [] =
      ⟨⟨0xFFFF, 0, 0, 0⟩, (on [.n, .c]), 0x000103, 0, 0, []⟩ := by
  decide

/-- S10: `ROLB BL`. -/
theorem test_S10_rolb :
    obs (step (at100 [0x5A, 0xB0, 0x00] ⟨0, 0x0080, 0, 0⟩ noFlags 0 [])) [] =
      ⟨⟨0, 0x0001, 0, 0⟩, (on [.c]), 0x000103, 0, 0, []⟩ := by
  decide

/-- S11: `ROR A`. -/
theorem test_S11_ror :
    obs (step (at100 [0x5E, 0x00, 0x00] ⟨0x0000, 0, 0, 0⟩ (on [.c]) 0 [])) [] =
      ⟨⟨0x0000, 0, 0, 0⟩, (on [.z]), 0x000103, 0, 0, []⟩ := by
  decide

/-- S12: `RORB AL`. -/
theorem test_S12_rorb :
    obs (step (at100 [0x62, 0x90, 0x00] ⟨0x1201, 0, 0, 0⟩ noFlags 0 [])) [] =
      ⟨⟨0x1280, 0, 0, 0⟩, (on [.n, .c]), 0x000103, 0, 0, []⟩ := by
  decide

/-- S13: `RORB A`. -/
theorem test_S13_rorb :
    obs (step (at100 [0x62, 0x00, 0x00] ⟨0x1202, 0, 0, 0⟩ noFlags 0 [])) [] =
      ⟨⟨0x0001, 0, 0, 0⟩, noFlags, 0x000103, 0, 0, []⟩ := by
  decide

/-- K1: `CMP A, B`. -/
theorem test_K1_cmp :
    obs (step (at100 [0x66, 0x01, 0x00] ⟨0x0010, 0x0020, 0, 0⟩ noFlags 0 [])) [] =
      ⟨⟨0x0010, 0x0020, 0, 0⟩, (on [.lt]), 0x000103, 0, 0, []⟩ := by
  decide

/-- K2: `CMP A, B`. -/
theorem test_K2_cmp :
    obs (step (at100 [0x66, 0x01, 0x00] ⟨0x0020, 0x0020, 0, 0⟩ (on [.lt, .gt]) 0 [])) [] =
      ⟨⟨0x0020, 0x0020, 0, 0⟩, (on [.z]), 0x000103, 0, 0, []⟩ := by
  decide

/-- K6: `CMPB A, #0x10`. -/
theorem test_K6_cmpb :
    obs (step (at100 [0x69, 0x00, 0x00, 0x10] ⟨0x1210, 0, 0, 0⟩ noFlags 0 [])) [] =
      ⟨⟨0x1210, 0, 0, 0⟩, (on [.z]), 0x000104, 0, 0, []⟩ := by
  decide

/-- K7: `CMPB AL, BL`. -/
theorem test_K7_cmpb :
    obs (step (at100 [0x6A, 0x9B, 0x00] ⟨0x0080, 0x007F, 0, 0⟩ noFlags 0 [])) [] =
      ⟨⟨0x0080, 0x007F, 0, 0⟩, (on [.gt]), 0x000103, 0, 0, []⟩ := by
  decide

/-- M1: `MOV A, #0x0000`. -/
theorem test_M1_mov :
    obs (step (at100 [0x6D, 0x00, 0x00, 0x00, 0x00] ⟨0x5555, 0x1111, 0, 0⟩ noFlags 0 [])) [] =
      ⟨⟨0x0000, 0x1111, 0, 0⟩, (on [.z]), 0x000105, 0, 0, []⟩ := by
  decide

/-- M2: `MOV B, #0x8000`. -/
theorem test_M2_mov :
    obs (step (at100 [0x6D, 0x10, 0x00, 0x80, 0x00] ⟨0, 0, 0, 0⟩ noFlags 0 [])) [] =
      ⟨⟨0, 0x8000, 0, 0⟩, (on [.n]), 0x000105, 0, 0, []⟩ := by
  decide

/-- M8: `MOVB DH, #0x80`. -/
theorem test_M8_movb :
    obs (step (at100 [0x71, 0xE0, 0x00, 0x80] ⟨0, 0, 0, 0x0011⟩ noFlags 0 [])) [] =
      ⟨⟨0, 0, 0, 0x8011⟩, (on [.n]), 0x000104, 0, 0, []⟩ := by
  decide

/-- M9: `MOVB A, [0x01FFFF+0]`. -/
theorem test_M9_movb :
    obs (step (at100 [0x73, 0x00, 0x00, 0x01, 0xFF, 0xFF] ⟨0xFFFF, 0, 0, 0⟩ noFlags 0 [(0x01FFFF, 0x00)])) [] =
      ⟨⟨0x0000, 0, 0, 0⟩, (on [.z]), 0x000106, 0, 0, []⟩ := by
  decide

/-- M10: `STR A, [0x010000+63]`. -/
theorem test_M10_str :
    obs (step (at100 [0x77, 0x00, 0x3F, 0x01, 0x00, 0x00] ⟨0x1234, 0, 0, 0⟩ noFlags 0 [])) [0x01003F, 0x010040] =
      ⟨⟨0x1234, 0, 0, 0⟩, noFlags, 0x000106, 0, 0, [some 0x12, some 0x34]⟩ := by
  decide

/-- M11: `STR AL, [0x010000+0]`. -/
theorem test_M11_str :
    obs (step (at100 [0x77, 0x90, 0x00, 0x01, 0x00, 0x00] ⟨0x1234, 0, 0, 0⟩ noFlags 0 [])) [0x010000, 0x010001] =
      ⟨⟨0x1234, 0, 0, 0⟩, noFlags, 0x000106, 0, 0, [some 0x00, some 0x34]⟩ := by
  decide

/-- M13: `STRB A, [0x010100+BL]`. -/
theorem test_M13_strb :
    obs (step (at100 [0x7B, 0x0B, 0x80, 0x01, 0x01, 0x00] ⟨0x1234, 0x00FF, 0, 0⟩ noFlags 0 [])) [0x0100FF] =
      ⟨⟨0x1234, 0x00FF, 0, 0⟩, noFlags, 0x000106, 0, 0, [some 0x34]⟩ := by
  decide

/-- P1: `PUSH A`. -/
theorem test_P1_push :
    obs (step (at100 [0x7E, 0x00, 0x00] ⟨0xBEEF, 0, 0, 0⟩ noFlags 0xFFFE [])) [0x01FFFE, 0x01FFFF] =
      ⟨⟨0xBEEF, 0, 0, 0⟩, noFlags, 0x000103, 0x0000, 0, [some 0xBE, some 0xEF]⟩ := by
  decide

/-- P2: `PUSH AL`. -/
theorem test_P2_push :
    obs (step (at100 [0x7E, 0x90, 0x00] ⟨0x12EF, 0, 0, 0⟩ noFlags 0 [])) [0x010000, 0x010001] =
      ⟨⟨0x12EF, 0, 0, 0⟩, noFlags, 0x000103, 0x0002, 0, [some 0x00, some 0xEF]⟩ := by
  decide

/-- P3: `PUSHB A`. -/
theorem test_P3_pushb :
    obs (step (at100 [0x82, 0x00, 0x00] ⟨0x1234, 0, 0, 0⟩ noFlags 0xFFFF [])) [0x01FFFF] =
      ⟨⟨0x1234, 0, 0, 0⟩, noFlags, 0x000103, 0x0000, 0, [some 0x34]⟩ := by
  decide

/-- P4: `POP B`. -/
theorem test_P4_pop :
    obs (step (at100 [0x86, 0x10, 0x00] ⟨0, 0, 0, 0⟩ noFlags 0x0002 [(0x010000, 0xCA), (0x010001, 0xFE)])) [] =
      ⟨⟨0, 0xCAFE, 0, 0⟩, noFlags, 0x000103, 0x0000, 0, []⟩ := by
  decide

/-- P5: `POP BH`. -/
theorem test_P5_pop :
    obs (step (at100 [0x86, 0xA0, 0x00] ⟨0, 0x0011, 0, 0⟩ noFlags 0x0002 [(0x010000, 0xCA), (0x010001, 0xFE)])) [] =
      ⟨⟨0, 0xFE11, 0, 0⟩, noFlags, 0x000103, 0x0000, 0, []⟩ := by
  decide

/-- P6: `POPB C`. -/
theorem test_P6_popb :
    obs (step (at100 [0x8A, 0x20, 0x00] ⟨0, 0, 0xFFFF, 0⟩ noFlags 0x0001 [(0x010000, 0x80)])) [] =
      ⟨⟨0, 0, 0x0080, 0⟩, noFlags, 0x000103, 0x0000, 0, []⟩ := by
  decide

/-- P7: `POPB CL`. -/
theorem test_P7_popb :
    obs (step (at100 [0x8A, 0xD0, 0x00] ⟨0, 0, 0x1200, 0⟩ noFlags 0 [(0x01FFFF, 0x34)])) [] =
      ⟨⟨0, 0, 0x1234, 0⟩, noFlags, 0x000103, 0xFFFF, 0, []⟩ := by
  decide

/-- J1: `JMP [0x000200+0]`. -/
theorem test_J1_jmp :
    obs (step (at100 [0x8F, 0x00, 0x00, 0x00, 0x02, 0x00] ⟨0, 0, 0, 0⟩ noFlags 0 [])) [] =
      ⟨⟨0, 0, 0, 0⟩, noFlags, 0x000200, 0, 0, []⟩ := by
  decide

/-- J2: `JMP [0x000200+A]`. -/
theorem test_J2_jmp :
    obs (step (at100 [0x8F, 0x00, 0x80, 0x00, 0x02, 0x00] ⟨0x8000, 0, 0, 0⟩ noFlags 0 [])) [] =
      ⟨⟨0x8000, 0, 0, 0⟩, noFlags, 0xFF8200, 0, 0, []⟩ := by
  decide

/-- J4: `JSR [0x000200+0]`. -/
theorem test_J4_jsr :
    obs (step (at100 [0x93, 0x00, 0x00, 0x00, 0x02, 0x00] ⟨0, 0, 0, 0⟩ noFlags 0x00FE [])) [0x0100FE, 0x0100FF, 0x010100] =
      ⟨⟨0, 0, 0, 0⟩, noFlags, 0x000200, 0x0101, 0, [some 0x00, some 0x01, some 0x06]⟩ := by
  decide

/-- J5: `JSR [0x000200+0]`. -/
theorem test_J5_jsr :
    obs (step (at100 [0x93, 0x00, 0x00, 0x00, 0x02, 0x00] ⟨0, 0, 0, 0⟩ noFlags 0xFFFF [])) [0x010000, 0x010001, 0x01FFFF] =
      ⟨⟨0, 0, 0, 0⟩, noFlags, 0x000200, 0x0002, 0, [some 0x01, some 0x06, some 0x00]⟩ := by
  decide

/-- J6: `RTS`. -/
theorem test_J6_rts :
    obs (step (at100 [0x94, 0x00, 0x00] ⟨0, 0, 0, 0⟩ noFlags 0x0001 [(0x010000, 0x00), (0x01FFFE, 0x00), (0x01FFFF, 0x02)])) [] =
      ⟨⟨0, 0, 0, 0⟩, noFlags, 0x000200, 0xFFFE, 0, []⟩ := by
  decide

/-- J7: `RTI`. -/
theorem test_J7_rti :
    obs (step (at100 [0x98, 0x00, 0x00] ⟨0, 0, 0, 0⟩ noFlags 0x0004 [(0x010000, 0x7F), (0x010001, 0x00), (0x010002, 0x02), (0x010003, 0x34)])) [] =
      ⟨⟨0, 0, 0, 0⟩, (on [.z, .n, .c, .v, .lt, .gt, .i]), 0x000234, 0x0000, 0, []⟩ := by
  decide

/-- J8: `RTI`. -/
theorem test_J8_rti :
    obs (step (at100 [0x98, 0x00, 0x00] ⟨0, 0, 0, 0⟩ (on [.z, .c]) 0x0004 [(0x010000, 0xC0), (0x010001, 0x00), (0x010002, 0x01), (0x010003, 0x00)])) [] =
      ⟨⟨0, 0, 0, 0⟩, (on [.i]), 0x000100, 0x0000, 0, []⟩ := by
  decide

/-- J9: `BEQ [0x000300+0]`. -/
theorem test_J9_beq :
    obs (step (at100 [0x9F, 0x00, 0x00, 0x00, 0x03, 0x00] ⟨0, 0, 0, 0⟩ noFlags 0 [])) [] =
      ⟨⟨0, 0, 0, 0⟩, noFlags, 0x000106, 0, 0, []⟩ := by
  decide

/-- J10: `BNE [0x000300+0]`. -/
theorem test_J10_bne :
    obs (step (at100 [0xA3, 0x00, 0x00, 0x00, 0x03, 0x00] ⟨0, 0, 0, 0⟩ noFlags 0 [])) [] =
      ⟨⟨0, 0, 0, 0⟩, noFlags, 0x000300, 0, 0, []⟩ := by
  decide

/-- J11: `BCS [0x000300+0]`. -/
theorem test_J11_bcs :
    obs (step (at100 [0xA7, 0x00, 0x00, 0x00, 0x03, 0x00] ⟨0, 0, 0, 0⟩ noFlags 0 [])) [] =
      ⟨⟨0, 0, 0, 0⟩, noFlags, 0x000106, 0, 0, []⟩ := by
  decide

/-- J12: `BCC [0x000300+0]`. -/
theorem test_J12_bcc :
    obs (step (at100 [0xAB, 0x00, 0x00, 0x00, 0x03, 0x00] ⟨0, 0, 0, 0⟩ noFlags 0 [])) [] =
      ⟨⟨0, 0, 0, 0⟩, noFlags, 0x000300, 0, 0, []⟩ := by
  decide

/-- J13: `BMI [0x000300+0]`. -/
theorem test_J13_bmi :
    obs (step (at100 [0xAF, 0x00, 0x00, 0x00, 0x03, 0x00] ⟨0, 0, 0, 0⟩ noFlags 0 [])) [] =
      ⟨⟨0, 0, 0, 0⟩, noFlags, 0x000106, 0, 0, []⟩ := by
  decide

/-- J14: `BPL [0x000300+0]`. -/
theorem test_J14_bpl :
    obs (step (at100 [0xB3, 0x00, 0x00, 0x00, 0x03, 0x00] ⟨0, 0, 0, 0⟩ noFlags 0 [])) [] =
      ⟨⟨0, 0, 0, 0⟩, noFlags, 0x000300, 0, 0, []⟩ := by
  decide

/-- J15: `BVS [0x000300+0]`. -/
theorem test_J15_bvs :
    obs (step (at100 [0xB7, 0x00, 0x00, 0x00, 0x03, 0x00] ⟨0, 0, 0, 0⟩ (on [.v]) 0 [])) [] =
      ⟨⟨0, 0, 0, 0⟩, (on [.v]), 0x000300, 0, 0, []⟩ := by
  decide

/-- J16: `BVC [0x000300+0]`. -/
theorem test_J16_bvc :
    obs (step (at100 [0xBB, 0x00, 0x00, 0x00, 0x03, 0x00] ⟨0, 0, 0, 0⟩ (on [.v]) 0 [])) [] =
      ⟨⟨0, 0, 0, 0⟩, (on [.v]), 0x000106, 0, 0, []⟩ := by
  decide

/-- J17: `BLT [0x000300+0]`. -/
theorem test_J17_blt :
    obs (step (at100 [0xBF, 0x00, 0x00, 0x00, 0x03, 0x00] ⟨0, 0, 0, 0⟩ (on [.lt]) 0 [])) [] =
      ⟨⟨0, 0, 0, 0⟩, (on [.lt]), 0x000300, 0, 0, []⟩ := by
  decide

/-- J18: `BGT [0x000300+0]`. -/
theorem test_J18_bgt :
    obs (step (at100 [0xC3, 0x00, 0x00, 0x00, 0x03, 0x00] ⟨0, 0, 0, 0⟩ (on [.gt]) 0 [])) [] =
      ⟨⟨0, 0, 0, 0⟩, (on [.gt]), 0x000300, 0, 0, []⟩ := by
  decide

/-- J19: `BLT [0x000300+0]`. -/
theorem test_J19_blt :
    obs (step (at100 [0xBF, 0x00, 0x00, 0x00, 0x03, 0x00] ⟨0, 0, 0, 0⟩ (on [.gt]) 0 [])) [] =
      ⟨⟨0, 0, 0, 0⟩, (on [.gt]), 0x000106, 0, 0, []⟩ := by
  decide

/-- J20: `BEQ [0x000300+CL]`. -/
theorem test_J20_beq :
    obs (step (at100 [0x9F, 0x0D, 0x80, 0x00, 0x03, 0x00] ⟨0, 0, 0x0080, 0⟩ (on [.z]) 0 [])) [] =
      ⟨⟨0, 0, 0x0080, 0⟩, (on [.z]), 0x000280, 0, 0, []⟩ := by
  decide

/-- G1: `SEC`. -/
theorem test_G1_sec :
    obs (step (at100 [0xC4, 0x00, 0x00] ⟨0, 0, 0, 0⟩ (on [.z]) 0 [])) [] =
      ⟨⟨0, 0, 0, 0⟩, (on [.z, .c]), 0x000103, 0, 0, []⟩ := by
  decide

/-- G2: `CLC`. -/
theorem test_G2_clc :
    obs (step (at100 [0xC8, 0x00, 0x00] ⟨0, 0, 0, 0⟩ (on [.c, .v]) 0 [])) [] =
      ⟨⟨0, 0, 0, 0⟩, (on [.v]), 0x000103, 0, 0, []⟩ := by
  decide

/-- G3: `SEI`. -/
theorem test_G3_sei :
    obs (step (at100 [0xCC, 0x00, 0x00] ⟨0, 0, 0, 0⟩ noFlags 0 [])) [] =
      ⟨⟨0, 0, 0, 0⟩, (on [.i]), 0x000103, 0, 0, []⟩ := by
  decide

/-- G4: `CLI`. -/
theorem test_G4_cli :
    obs (step (at100 [0xD0, 0x00, 0x00] ⟨0, 0, 0, 0⟩ (on [.i]) 0 [])) [] =
      ⟨⟨0, 0, 0, 0⟩, noFlags, 0x000103, 0, 0, []⟩ := by
  decide

/-- G5: `CLV`. -/
theorem test_G5_clv :
    obs (step (at100 [0xD4, 0x00, 0x00] ⟨0, 0, 0, 0⟩ (on [.c, .v]) 0 [])) [] =
      ⟨⟨0, 0, 0, 0⟩, (on [.c]), 0x000103, 0, 0, []⟩ := by
  decide

/-- G6: `SEC (meta 0xFFFF)`. -/
theorem test_G6_sec :
    obs (step (at100 [0xC4, 0xFF, 0xFF] ⟨0, 0, 0, 0⟩ noFlags 0 [])) [] =
      ⟨⟨0, 0, 0, 0⟩, (on [.c]), 0x000103, 0, 0, []⟩ := by
  decide

/-- O1: `IN A, #0x01`. -/
theorem test_O1_in :
    obs (step (at100 [0xD9, 0x00, 0x00, 0x01] ⟨0xFFFF, 0, 0, 0⟩ noFlags 0 [])) [] =
      ⟨⟨0x005A, 0, 0, 0⟩, noFlags, 0x000104, 0, 0, []⟩ := by
  decide

/-- O2: `IN AH, (B)`. -/
theorem test_O2_in :
    obs (step (at100 [0xDA, 0x81, 0x00] ⟨0x0011, 0x0101, 0, 0⟩ noFlags 0 [])) [] =
      ⟨⟨0x5A11, 0x0101, 0, 0⟩, noFlags, 0x000103, 0, 0, []⟩ := by
  decide

/-- O6: `NOP`. -/
theorem test_O6_nop :
    obs (step (at100 [0xE0, 0x00, 0x00] ⟨0x0001, 0, 0, 0⟩ (on [.c]) 0 [])) [] =
      ⟨⟨0x0001, 0, 0, 0⟩, (on [.c]), 0x000103, 0, 0, []⟩ := by
  decide

/-- O7: `HLT`. -/
theorem test_O7_hlt :
    obs (step (at100 [0xE4, 0x00, 0x00] ⟨0, 0, 0, 0⟩ noFlags 0 [])) [] =
      ⟨⟨0, 0, 0, 0⟩, noFlags, 0x000103, 0, 0, []⟩ := by
  decide

/-- O8: `(absent opcode 0x00)`. -/
theorem test_O8_absent :
    obs (step (at100 [0x00, 0x00, 0x00] ⟨0, 0, 0, 0⟩ noFlags 0 [])) [] =
      ⟨⟨0, 0, 0, 0⟩, noFlags, 0x000103, 0, 1, []⟩ := by
  decide

/-- O9: `(absent opcode 0x04)`. -/
theorem test_O9_absent :
    obs (step (at100 [0x04, 0x00, 0x00] ⟨0, 0, 0, 0⟩ noFlags 0 [])) [] =
      ⟨⟨0, 0, 0, 0⟩, noFlags, 0x000103, 0, 1, []⟩ := by
  decide

/-- O3: `OUT BL, #0x01`: the device of port 0x01 accepts 0xC3 once. -/
theorem test_O3_out :
    nextHas (step (at100 [0xDD, 0xB0, 0x00, 0x01] ⟨0, 0x12C3, 0, 0⟩ noFlags 0 []))
      (fun t => t.accepted == [.io 0x01 0xC3] && t.pc == 0x000104 && t.regs == ⟨0, 0x12C3, 0, 0⟩) = true := by
  decide

/-- O4: `OUT A, (A)`. -/
theorem test_O4_out :
    nextHas (step (at100 [0xDE, 0x00, 0x00] ⟨0x0001, 0, 0, 0⟩ noFlags 0 []))
      (fun t => t.accepted == [.io 0x01 0x01] && t.pc == 0x000103) = true := by
  decide

/-! ## Reset and the engine's interface -/

/-- Construction under the default parameters gives the reset state (R42, R450). -/
theorem test_construct_reference : construct Config.reference = State.reset := by decide

/-- Reset reads the entry address (R451). -/
theorem test_reset_vector :
    nextHas (step { State.reset with mem := [(1, 0x01)] }) (fun t => t.pc == 0x000100 && t.phase == .fetch) = true := by
  decide

/-- An instruction placed for the fetch runs as the first step from reset. -/
theorem test_with_fetch_word :
    nextHas (step (State.reset.withFetchWord 40 0x341200006D)) (fun t => t.regs.a == 0x1234 && t.pc == 5) = true := by
  decide

/-- Interrupt entry with vector number 3: acknowledge, slot 9, frame of four bytes (R412 to R417). -/
theorem test_irq_entry :
    obs (step { ready ⟨0, 0, 0, 0⟩ (on [.z]) 0 [(10, 0x05)] with
        phase := .interrupt, istat := .irq, lines := ⟨false, false, 3, [], [], [], []⟩ })
      [0x010000, 0x010001, 0x010002, 0x010003] =
      ⟨⟨0, 0, 0, 0⟩, on [.z], 0x000500, 4, 0, [some 0x01, some 0x00, some 0x01, some 0x06]⟩ := by
  decide

/-! ## Witnesses: a state and operands that meet the hypotheses of each statement -/

/-- A byte read that does not depend on the environment. -/
def rd (s : State) (a : Addr) (wide : Bool) : Option Word :=
  match memRead s.cfg s.mem s.lines a wide with
  | .ok v => some v
  | .error _ => none

/-- A state ready to execute with 4 stack bytes below sp = 4. -/
def stacked : State := ready ⟨0x1234, 0x0001, 0x0001, 0x8000⟩ (on [.z]) 4 [(0x010000, 0x7F), (0x010001, 0), (0x010002, 2), (0x010003, 0x34)]

/-- An interrupt entry is next; vector 0 of the empty ROM. -/
def entering (i : IStat) : State := { stacked with phase := .interrupt, istat := i }

theorem witness_SelectorDecodeAliases : (3 : Selector).toNat < 4 ∧ (0 : Selector).toNat < 4 := by decide

theorem witness_FlagByteRoundTrip : Config.reference.flagLayout.wf = true := by decide

theorem witness_DecodeOfEncode :
    Config.reference.metaLayout.wf = true ∧ opcodesDistinct Config.reference.opcodeTable = true ∧
      encode Config.reference (.jsr ⟨0xFF, 0xFFFF, .disp true 63⟩) = some [0x93, 0x00, 0x7F, 0xFF, 0xFF, 0xFF] := by
  decide

theorem witness_UnusedFieldsIgnored :
    (entryOf referenceTable 0x16 = .ok (.inc, .register) ∧ sameUsedFields .inc .register 0x1000 0x1ABC = true) ∧
    (entryOf referenceTable 0x06 = .ok (.add, .register) ∧ sameUsedFields .add .register 0x1200 0x12FF = true) ∧
    (entryOf referenceTable 0x05 = .ok (.add, .immediate) ∧ sameUsedFields .add .immediate 0x1000 0x1FFF = true) ∧
    (entryOf referenceTable 0xE0 = .ok (.nop, .implied) ∧ sameUsedFields .nop .implied 0x0000 0xFFFF = true) ∧
    (entryOf referenceTable 0x77 = .ok (.str, .absolute) ∧ sameUsedFields .str .absolute 0x1280 0x12FF = true) ∧
    (entryOf referenceTable 0x8F = .ok (.jmp, .absolute) ∧ sameUsedFields .jmp .absolute 0x0045 0xFF45 = true) := by
  decide

theorem witness_DecodeTakesTheLength :
    decode Config.reference [0xE0, 0, 0, 1] = .ok (.nop, [1]) ∧
      entryOf Config.reference.opcodeTable 0xE0 = .ok (.nop, .implied) ∧ instrLength .nop .implied ≤ [0xE0, 0, (0 : Byte)].length := by
  decide

/-- Devices that are no memory, 16 bytes each: fixed refusals, a fixed value of each width, one whose answer the
environment gives; ports: write-only, one that refuses the byte 0, one whose answer the environment gives (R73). -/
def oddDevices : Platform :=
  let fixed (r : DeviceResult) : List BusRule := [⟨none, none, none, r⟩]
  { devices :=
      [⟨0x00, 0x0F, 16, none, .rules (fixed .writeOnly), .rules (fixed .readOnly)⟩,
       ⟨0x10, 0x1F, 16, none, .rules (fixed .noDevice), .rules (fixed .noDevice)⟩,
       ⟨0x20, 0x2F, 16, none, .rules (fixed .readOnly), .rules (fixed .writeOnly)⟩,
       ⟨0x30, 0x3F, 16, none, .rules [], .rules []⟩,
       ⟨0x40, 0x4F, 16, none, .rules (fixed (.value8 0x12)), .rules (fixed .done)⟩,
       ⟨0x50, 0x5F, 16, none, .rules (fixed (.value16 0x1234)), .rules (fixed .done)⟩,
       ⟨0x60, 0x6F, 16, none, .external, .external⟩]
    ioDevices :=
      [⟨0x02, .rules [⟨none, none, .writeOnly⟩], .rules [⟨none, some 0, .readOnly⟩, ⟨none, none, .done⟩]⟩,
       ⟨0x03, .external, .external⟩,
       ⟨0x03, .rules [], .rules [⟨none, none, .done⟩]⟩]
    romBase := 0, image := [] }

/-- What the environment answers for the external devices in one cycle: a byte at 0x60 and a refusal elsewhere; a write of
0xFF taken and any other refused. -/
def oddLines : Lines :=
  ⟨false, false, 0, [⟨some 0x60, some false, none, .value8 0x77⟩, ⟨none, none, none, .noDevice⟩],
    [⟨none, some false, some 0x00FF, .done⟩], [⟨some 0x03, none, .value8 0x55⟩], [⟨none, some 0x01, .done⟩]⟩

/-- The configuration of those devices. -/
def oddConfig : Config := { Config.reference with platform := oddDevices }

/-- R74, R430: the result of a memory read decides value or fault code: byte and word, at every device. -/
theorem test_device_reads :
    [0x0E, 0x1E, 0x2E, 0x3E, 0x4E, 0x5E, 0x60, 0x61].map (fun a => memRead oddConfig [] oddLines a false) =
      [.error (.busWriteOnly (.mem 0x0E)), .error (.busNoDevice (.mem 0x1E) false), .error (.busNoValue (.mem 0x2E) false),
       .error (.busNoValue (.mem 0x3E) false), .ok 0x0012, .error (.busNoValue (.mem 0x5E) false), .ok 0x0077,
       .error (.busNoDevice (.mem 0x61) false)] ∧
    [0x4E, 0x5E, 0x0F, 0x70].map (fun a => memRead oddConfig [] oddLines a true) =
      [.error (.busNoValue (.mem 0x4E) false), .ok 0x1234, .error (.busSplit 0x0F), .error (.busNoDevice (.mem 0x70) false)] := by
  decide

/-- R74, R430: the result of a memory write; the external device takes one byte value only. -/
theorem test_device_writes :
    [0x0E, 0x1E, 0x2E, 0x3E, 0x4E, 0x60].map (fun a => memWrite oddConfig [] oddLines a false 0x00FF) =
      [.error (.busReadOnly (.mem 0x0E)), .error (.busNoDevice (.mem 0x1E) true), .error (.busNoValue (.mem 0x2E) true),
       .error (.busNoValue (.mem 0x3E) true), .ok ([], [.bus 0x4E false 0x00FF]), .ok ([], [.bus 0x60 false 0x00FF])] ∧
    memWrite oddConfig [] oddLines 0x60 false 0x00FE = .error (.busNoValue (.mem 0x60) true) := by
  decide

/-- R75, R360, R430: ports, by exact number and first match; code 6 for a write-only port, code 5 for a refused byte. -/
theorem test_port_answers :
    [0x01, 0x02, 0x03].map (fun p => ioReadResult oddConfig oddLines p) =
      [.error (.busNoDevice (.io 0x01) false), .error (.busWriteOnly (.io 0x02)), .ok 0x55] ∧
    [(0x01, 0x05), (0x02, 0x00), (0x02, 0x05), (0x03, 0x01), (0x03, 0x05)].map
        (fun q => ioWriteResult oddConfig oddLines q.1 q.2) =
      [.error (.busNoDevice (.io 0x01) true), .error (.busReadOnly (.io 0x02)), .ok [.io 0x02 0x05], .ok [.io 0x03 0x01],
       .error (.busNoValue (.io 0x03) true)] := by
  decide

/-- R361 over R360: IN from a write-only port stops with BUS_WRITE_ONLY and leaves the register. -/
theorem test_in_write_only_port :
    (exec (.inImm 0 0x02) { ready ⟨0x1234, 0, 0, 0⟩ noFlags 0 [] with cfg := oddConfig } |> fun r =>
      match r with
      | .fault (.busWriteOnly t) => t.fault == some (.busWriteOnly (.io 0x02)) && t.regs.a == 0x1234
      | _ => false) = true := by
  decide

/-- Every clause: no device, a split word at the last byte, memory with and without a value, and rules of a device and of
the environment, on both buses. -/
theorem witness_ResolutionOrder :
    (firstDevice oddDevices 0x70).isNone = true ∧
    ((firstDevice oddDevices 0x0F).map (fun d => decide (d.first ≤ (0x0F : Addr) + 1 ∧ (0x0F : Addr) + 1 ≤ d.last))) = some false ∧
    ((firstDevice oddDevices 0x0E).map (fun d => (d.onRead, d.onWrite))) =
      some (.rules [⟨none, none, none, .writeOnly⟩], .rules [⟨none, none, none, .readOnly⟩]) ∧
    ((firstDevice oddDevices 0x60).map (fun d => (d.onRead, d.onWrite))) = some (.external, .external) ∧
    firstDevice Config.reference.platform 0x01FFFE = some referenceRam ∧ referenceRam.onRead = .memory ∧
    readCell Config.reference.platform [(0x01FFFE, 1), (0x01FFFF, 2)] 0x01FFFE = some 1 ∧
    readCell Config.reference.platform [(0x01FFFE, 1), (0x01FFFF, 2)] (0x01FFFE + 1) = some 2 ∧
    readCell Config.reference.platform [(0x01FFFE, 1)] (0x01FFFE + 1) = none ∧
    (firstIoDevice oddDevices 0x01).isNone = true ∧
    ((firstIoDevice oddDevices 0x03).map (fun d => (d.onRead, d.onWrite))) = some (.external, .external) := by
  decide

theorem witness_StoredValueReadsBack :
    firstDevice Config.reference.platform 0x01FFFE = some referenceRam ∧
      firstDevice Config.reference.platform 0x01FFFF = some referenceRam ∧
      referenceRam.onRead = .memory ∧ referenceRam.onWrite = .store ∧
      (referenceRam.first ≤ (0x01FFFE : Addr) + 1 ∧ (0x01FFFE : Addr) + 1 ≤ referenceRam.last) := by
  decide

/-- A cycle that requests a write (PUSH) and one that requests none (NOP). -/
theorem witness_CycleWritesOnlyItsRequest :
    (SoleWriter stacked ∧ nextHas (cycle { stacked with irOp := 0x7E }) (fun t => t.busEnable && t.rw && t.word) = true) ∧
    nextHas (cycle { stacked with irOp := 0x82 }) (fun t => t.busEnable && t.rw && !t.word) = true ∧
    nextHas (cycle { stacked with irOp := 0xE0 }) (fun t => !t.busEnable) = true := by
  refine ⟨⟨rfl, ?_⟩, ?_, ?_⟩ <;> decide

theorem witness_StepKeepsMemoryCanonical :
    Memory.wf State.reset.cfg.platform State.reset.mem ∧ ∃ t, step State.reset = .next t ∧ (t.phase == .fetch) = true :=
  ⟨by decide, nextHas_spec (by decide)⟩

/-- A STR into RAM next to ROM, on the reference devices. -/
theorem witness_RomNeverChanges :
    (at100 [0x77, 0, 0, 1, 0, 0] ⟨0x1234, 0, 0, 0⟩ noFlags 0 []).cfg.platform.devices = [referenceRom, referenceRam] ∧
      (∃ t, step (at100 [0x77, 0, 0, 1, 0, 0] ⟨0x1234, 0, 0, 0⟩ noFlags 0 []) = .next t ∧ (t.cyc == 1) = true) ∧
      (0x00FFFF : Addr) ≤ 0x00FFFF :=
  ⟨by decide, nextHas_spec (by decide), by decide⟩

theorem witness_StepKeepsConfiguration : ∃ t, step State.reset = .next t ∧ (t.phase == .fetch) = true :=
  nextHas_spec (by decide)

/-- The bytes stand at pc, for an instruction with no, one, two and three operand bytes. -/
theorem witness_StepRunsDecodedInstruction :
    (AtFetch (at100 [0xE0, 0, 0] ⟨0, 0, 0, 0⟩ noFlags 0 []) ∧ SoleWriter (at100 [0xE0, 0, 0] ⟨0, 0, 0, 0⟩ noFlags 0 []) ∧
      InstrAt (at100 [0xE0, 0, 0] ⟨0, 0, 0, 0⟩ noFlags 0 []) [0xE0, 0, 0] ∧
      decode Config.reference [0xE0, 0, 0] = .ok (.nop, [])) ∧
    (InstrAt (at100 [0x71, 0x90, 0, 0x7F] ⟨0, 0, 0, 0⟩ noFlags 0 []) [0x71, 0x90, 0, 0x7F] ∧
      decode Config.reference [0x71, 0x90, 0, 0x7F] = .ok (.movbImm 9 0x7F, [])) ∧
    (InstrAt (at100 [0x6D, 0, 0, 0x12, 0x34] ⟨0, 0, 0, 0⟩ noFlags 0 []) [0x6D, 0, 0, 0x12, 0x34] ∧
      decode Config.reference [0x6D, 0, 0, 0x12, 0x34] = .ok (.movImm 0 0x1234, [])) ∧
    (InstrAt (at100 [0x8F, 0, 0, 0x00, 0x02, 0x10] ⟨0, 0, 0, 0⟩ noFlags 0 []) [0x8F, 0, 0, 0x00, 0x02, 0x10] ∧
      decode Config.reference [0x8F, 0, 0, 0x00, 0x02, 0x10] = .ok (.jmp ⟨0, 0x0210, .disp false 0⟩, [])) := by
  refine ⟨⟨by decide, by rfl, ⟨fun _ => rfl, fun _ => rfl, trivial⟩, by decide⟩,
    ⟨⟨fun _ => rfl, fun _ => rfl, fun _ => rfl⟩, by decide⟩, ⟨⟨fun _ => rfl, fun _ => rfl, fun _ => rfl⟩, by decide⟩,
    ⟨⟨fun _ => rfl, fun _ => rfl, fun _ => rfl, fun _ => rfl⟩, by decide⟩⟩

theorem witness_UnknownOpcodeFaults :
    AtFetch (at100 [] ⟨0, 0, 0, 0⟩ noFlags 0 []) ∧ SoleWriter (at100 [] ⟨0, 0, 0, 0⟩ noFlags 0 []) ∧
      Reads (at100 [] ⟨0, 0, 0, 0⟩ noFlags 0 []) 0x000100 false ((0 : Byte).setWidth 16) ∧
      Reads (at100 [] ⟨0, 0, 0, 0⟩ noFlags 0 []) (0x000100 + 1) true 0 ∧
      entryOf Config.reference.opcodeTable 0 = .error (.unknownOpcode 0) :=
  ⟨by decide, rfl, fun _ => rfl, fun _ => rfl, by decide⟩

theorem witness_StepIsItsCycles :
    (State.reset.cyc = 1 ∧ State.reset.phase = .reset) ∧
      ((at100 [] ⟨0, 0, 0, 0⟩ noFlags 0 []).cyc = 1 ∧ (at100 [] ⟨0, 0, 0, 0⟩ noFlags 0 []).phase = .fetch) ∧
      ((entering .irq).cyc = 1 ∧ (entering .irq).phase = .interrupt) := by
  decide

theorem witness_CycleCounts :
    (State.reset.cyc = 1 ∧ State.reset.phase = .reset ∧ ∃ t, step State.reset = .next t ∧ (t.phase == .fetch) = true) ∧
    ((entering .nmi).cyc = 1 ∧ (entering .nmi).phase = .interrupt ∧
      ∃ t, step (entering .nmi) = .next t ∧ (t.phase == .fetch) = true) ∧
    ((at100 [0xE0] ⟨0, 0, 0, 0⟩ noFlags 0 []).cyc = 1 ∧ (at100 [0xE0] ⟨0, 0, 0, 0⟩ noFlags 0 []).phase = .fetch ∧
      ∃ t, step (at100 [0xE0] ⟨0, 0, 0, 0⟩ noFlags 0 []) = .next t ∧ (t.pc == 0x000103) = true) :=
  ⟨⟨rfl, rfl, nextHas_spec (by decide)⟩, ⟨rfl, rfl, nextHas_spec (by decide)⟩, ⟨rfl, rfl, nextHas_spec (by decide)⟩⟩

/-- The counter in range at the first and the last cycle of a sequence, and a step from there. -/
theorem witness_StepKeepsCounterInRange :
    (CounterInRange State.reset ∧ ∃ t, step State.reset = .next t ∧ (t.phase == .fetch) = true) ∧
    (CounterInRange { entering .irq with cyc := 8 } ∧
      ∃ t, step { entering .irq with cyc := 8 } = .next t ∧ (t.phase == .fetch) = true) :=
  ⟨⟨by decide, nextHas_spec (by decide)⟩, ⟨by decide, nextHas_spec (by decide)⟩⟩

theorem witness_ResetMeetsInvariants : configFault State.reset.cfg = none := by decide

/-- The counter in range at the longest sequence's last cycle and at the longest template's. -/
theorem witness_SequencingFaultUnreachable :
    CounterInRange { entering .irq with cyc := 8 } ∧ CounterInRange { stacked with irOp := 0x93, cyc := 6 } := by
  decide

/-- One transition of each kind. -/
theorem witness_PhaseTransitions :
    nextHas (cycle { State.reset with cyc := 3 }) (fun t => t.phase == .fetch) = true ∧
    nextHas (cycle { State.reset with phase := .fetch, cyc := 3 }) (fun t => t.phase == .execute) = true ∧
    nextHas (cycle { stacked with irOp := 0xE0 }) (fun t => t.phase == .fetch) = true ∧
    nextHas (cycle { stacked with irOp := 0xE0, istat := .nmi }) (fun t => t.phase == .interrupt) = true ∧
    nextHas (cycle { stacked with irOp := 0xE4 }) (fun t => t.phase == .halt) = true ∧
    nextHas (cycle { entering .irq with cyc := 8 }) (fun t => t.phase == .fetch) = true := by
  decide

/-- HLT and another instruction, with and without an interrupt latched. -/
theorem witness_FinishChoosesNextState :
    (Ready stacked ∧ nextHas (exec .hlt stacked) (fun t => t.phase == .halt) = true) ∧
    nextHas (exec .nop stacked) (fun t => t.phase == .fetch) = true ∧
    (Ready { stacked with istat := .irq } ∧
      nextHas (exec .nop { stacked with istat := .irq }) (fun t => t.phase == .interrupt) = true) := by
  decide

/-- A cycle with a next state and one that ends in a fault; outside Interrupt cycle 8, and in it. -/
theorem witness_SampledEveryCycle :
    (stacked.fault = none ∧ Leaves (cycle { stacked with irOp := 0xE0 }) (left (cycle { stacked with irOp := 0xE0 }))) ∧
    Leaves (cycle { stacked with irOp := 0x00 }) (left (cycle { stacked with irOp := 0x00 })) ∧
    ¬(stacked.phase = .interrupt ∧ stacked.cyc = 8) ∧
    ({ entering .irq with cyc := 8 }.phase = .interrupt ∧ { entering .irq with cyc := 8 }.cyc = 8) :=
  ⟨⟨rfl, .inl rfl⟩, .inr ⟨_, rfl, rfl⟩, by decide, rfl, rfl⟩

theorem witness_LatchHeldUntilServiced :
    ((entering .irq).istat ≠ .none ∧ Leaves (cycle (entering .irq)) (left (cycle (entering .irq)))) ∧
    ({ entering .irq with cyc := 8 }.istat ≠ .none ∧
      Leaves (cycle { entering .irq with cyc := 8 }) (left (cycle { entering .irq with cyc := 8 }))) :=
  ⟨⟨by decide, .inl rfl⟩, ⟨by decide, .inl rfl⟩⟩

theorem witness_AcknowledgeAndRequests :
    nextHas (cycle (entering .irq)) (fun t => t.irqAck) = true ∧
      nextHas (cycle { entering .irq with cyc := 2 }) (fun t => !t.irqAck && t.busEnable) = true := by
  decide

/-- A latched interrupt, and an IRQ that latches in the first cycle. -/
theorem witness_TakenAtFinish :
    (AtFetch { at100 [0xE0] ⟨0, 0, 0, 0⟩ noFlags 0 [] with istat := .nmi } ∧
      ∃ t, step { at100 [0xE0] ⟨0, 0, 0, 0⟩ noFlags 0 [] with istat := .nmi } = .next t ∧ (t.phase == .interrupt) = true) ∧
    (AtFetch { at100 [0xE0] ⟨0, 0, 0, 0⟩ noFlags 0 [] with lines := ⟨true, false, 0, [], [], [], []⟩ } ∧
      (linesAt { at100 [0xE0] ⟨0, 0, 0, 0⟩ noFlags 0 [] with lines := ⟨true, false, 0, [], [], [], []⟩ } 1).irq = true ∧
      ∃ t, step { at100 [0xE0] ⟨0, 0, 0, 0⟩ noFlags 0 [] with lines := ⟨true, false, 0, [], [], [], []⟩ } = .next t ∧
        (t.phase == .interrupt) = true) :=
  ⟨⟨by decide, nextHas_spec (by decide)⟩, ⟨by decide, rfl, nextHas_spec (by decide)⟩⟩

/-- An IRQ with vector 0 and an NMI, in the empty ROM; the frame in RAM, also when sp wraps. -/
theorem witness_InterruptEntryPushesAndVectors :
    (AtInterrupt (entering .irq) ∧ SoleWriter (entering .irq) ∧
      Reads (entering .irq) 0x000000 false ((0 : Byte).setWidth 16) ∧ Reads (entering .irq) (0x000000 + 1) true (joinWord 0 0) ∧
      (∀ a ∈ [stackByte (entering .irq) 4, stackByte (entering .irq) 5, stackByte (entering .irq) 6, stackByte (entering .irq) 7],
        StoresAt (entering .irq) a)) ∧
    (AtInterrupt (entering .nmi) ∧ Reads (entering .nmi) 0x000030 false ((0 : Byte).setWidth 16) ∧
      Reads (entering .nmi) (0x000030 + 1) true (joinWord 0 0)) ∧
    (∀ a ∈ [stackByte (entering .irq) 0xFFFF, stackByte (entering .irq) (0xFFFF + 1)], StoresAt (entering .irq) a) := by
  refine ⟨⟨by decide, rfl, fun _ => rfl, fun _ => rfl, ?_⟩, ⟨by decide, fun _ => rfl, fun _ => rfl⟩, ?_⟩
  · intro a ha
    simp only [List.mem_cons, List.not_mem_nil, or_false] at ha
    rcases ha with rfl | rfl | rfl | rfl <;> exact ⟨referenceRam, rfl, rfl⟩
  · intro a ha
    simp only [List.mem_cons, List.not_mem_nil, or_false] at ha
    rcases ha with rfl | rfl <;> exact ⟨referenceRam, rfl, rfl⟩

/-- Entry and a handler that has changed nothing yet. -/
theorem witness_InterruptThenRtiRestores :
    ∃ t u, AtInterrupt (entering .irq) ∧ SoleWriter (entering .irq) ∧ (entering .irq).cfg.flagLayout.wf = true ∧
      (∀ a ∈ [stackByte (entering .irq) 4, stackByte (entering .irq) 5, stackByte (entering .irq) 6, stackByte (entering .irq) 7],
        RamAt (entering .irq) a) ∧
      step (entering .irq) = .next t ∧ Ready u ∧ u.cfg = t.cfg ∧ u.sp = t.sp ∧ ∀ a, readByte u a = readByte t a := by
  obtain ⟨t, ht, hf⟩ := nextHas_spec (r := step (entering .irq)) (p := fun t => t.fault.isNone) (by decide)
  refine ⟨t, { t with phase := .execute }, by decide, rfl, by decide, ?_, ht, ⟨by simpa using hf, rfl⟩, rfl, rfl, fun _ => rfl⟩
  intro a ha
  simp only [List.mem_cons, List.not_mem_nil, or_false] at ha
  rcases ha with rfl | rfl | rfl | rfl <;> exact ⟨referenceRam, rfl, rfl, rfl⟩

theorem witness_InterruptFlagWindows :
    (Ready { stacked with lines := ⟨true, false, 0, [], [], [], []⟩ } ∧ stacked.istat = .none ∧ stacked.flags.i = false ∧
      (linesAt { stacked with lines := ⟨true, false, 0, [], [], [], []⟩ } 1).irq = true) ∧
    (Ready { stacked with flags := on [.i], lines := ⟨true, false, 0, [], [], [], []⟩ } ∧ (on [.i]).i = true ∧
      ¬((linesAt { stacked with flags := on [.i], lines := ⟨true, false, 0, [], [], [], []⟩ } 1).nmi = true ∧ stacked.nmiPrev = false)) := by
  decide

theorem witness_ResetReadsVector :
    configFault stacked.cfg = none ∧ SoleWriter stacked ∧ Reads stacked 0x000000 false ((0 : Byte).setWidth 16) ∧
      Reads stacked 0x000001 true (joinWord 0 0) :=
  ⟨by decide, rfl, fun _ => rfl, fun _ => rfl⟩

theorem witness_ResetRegisterValues : firstBadRow State.reset.cfg.opcodeTable = none ∧ imageFits State.reset.cfg.platform = true := by
  decide

/-- A malformed table, and a valid table with an image one byte longer than its device. -/
theorem witness_ResetRecordsConfigurationFault :
    firstBadRow [{ opcode := 0x05, mnemonic := none, mode := .immediate, isByte := false, size := 5 }] = some 0x05 ∧
    (firstBadRow Config.reference.opcodeTable = none ∧
      romSize { oddDevices with image := List.replicate 17 0 } < (List.replicate 17 (0 : Byte)).length) := by
  decide

theorem witness_RecordedFaultStops : { stacked with fault := some (.busSplit 0) }.fault = some (.busSplit 0) := rfl

theorem witness_HaltIsPermanent :
    { stacked with phase := .halt }.phase = .halt ∧ { stacked with phase := .halt }.fault = none ∧
      1 ≤ { stacked with phase := .halt }.cyc := by
  decide

/-- Ready, and an Absolute operand of each width that RAM answers: for AddAndSubtract, LogicOperations, Compare, Move; Ready
alone for IncrementAndDecrement, ShiftsAndRotates, JumpsAndBranches, FlagControlAndNop, Halt. -/
theorem witness_Ready :
    Ready stacked ∧ SoleWriter stacked ∧
      memRead stacked.cfg stacked.mem (linesAt stacked 1) (effectiveAddr stacked ⟨0x01, 0x0002, .disp false 0⟩) ((16 : Nat) == 16) =
        .ok 0x0234 ∧
      memRead stacked.cfg stacked.mem (linesAt stacked 1) (effectiveAddr stacked ⟨0x01, 0x0004, .disp true 1⟩) ((8 : Nat) == 16) =
        .ok 0x0034 :=
  ⟨by decide, rfl, rfl, rfl⟩

/-- A word at the last two bytes of RAM and a byte at the last one; the device stores them. -/
theorem witness_StoreWritesMemory :
    Ready stacked ∧ SoleWriter stacked ∧
      (∃ m, memWrite stacked.cfg stacked.mem (linesAt stacked 1) (effectiveAddr stacked ⟨0x01, 0xFFFE, .disp false 0⟩) true (readSel stacked 0) = .ok (m, [])) ∧
      (∃ m, memWrite stacked.cfg stacked.mem (linesAt stacked 1) (effectiveAddr stacked ⟨0x01, 0xFFFF, .disp false 0⟩) false
        ((loByte (readSel stacked 0)).setWidth 16) = .ok (m, [])) ∧
      StoresAt stacked (effectiveAddr stacked ⟨0x01, 0xFFFE, .disp false 0⟩) :=
  ⟨by decide, rfl, ⟨_, rfl⟩, ⟨_, rfl⟩, ⟨referenceRam, rfl, rfl⟩⟩

/-- sp at the last place where a word push fits, and a byte push at the wrap. -/
theorem witness_PushWritesTheStack :
    Ready { stacked with sp := 0xFFFE } ∧ SoleWriter stacked ∧
      (∃ m, memWrite stacked.cfg stacked.mem (linesAt stacked 1) (stackByte stacked 0xFFFE) true (readSel stacked 0) = .ok (m, [])) ∧
      (∃ m, memWrite stacked.cfg stacked.mem (linesAt stacked 1) (stackByte stacked 0xFFFF) false ((loByte (readSel stacked 0)).setWidth 16) = .ok (m, [])) ∧
      StoresAt stacked (stackByte stacked 0xFFFE) :=
  ⟨by decide, rfl, ⟨_, rfl⟩, ⟨_, rfl⟩, ⟨referenceRam, rfl, rfl⟩⟩

theorem witness_PopReadsTheStack :
    Ready stacked ∧ SoleWriter stacked ∧
      memRead stacked.cfg stacked.mem (linesAt stacked 1) (stackByte stacked (stacked.sp - countOf true)) true = .ok 0x0234 ∧
      memRead stacked.cfg stacked.mem (linesAt stacked 1) (stackByte stacked (stacked.sp - countOf false)) false = .ok 0x0034 :=
  ⟨by decide, rfl, rfl, rfl⟩

/-- A push of each width, and the state after it made ready again. -/
theorem witness_PushThenPopRestores :
    Ready stacked ∧ SoleWriter stacked ∧ RamAt stacked (stackByte stacked stacked.sp) ∧
    (∃ t u, exec (.push 0) stacked = .next t ∧ Ready u ∧ u.cfg = t.cfg ∧ u.sp = t.sp ∧ ∀ a, readByte u a = readByte t a) ∧
    (∃ t u, exec (.pushb 0) stacked = .next t ∧ Ready u ∧ u.cfg = t.cfg ∧ u.sp = t.sp ∧ ∀ a, readByte u a = readByte t a) := by
  refine ⟨by decide, rfl, ⟨referenceRam, rfl, rfl, rfl⟩, ?_, ?_⟩
  · obtain ⟨t, ht, hf⟩ := nextHas_spec (r := exec (.push 0) stacked) (p := fun t => t.fault.isNone) (by decide)
    exact ⟨t, { t with phase := .execute }, ht, ⟨by simpa using hf, rfl⟩, rfl, rfl, fun _ => rfl⟩
  · obtain ⟨t, ht, hf⟩ := nextHas_spec (r := exec (.pushb 0) stacked) (p := fun t => t.fault.isNone) (by decide)
    exact ⟨t, { t with phase := .execute }, ht, ⟨by simpa using hf, rfl⟩, rfl, rfl, fun _ => rfl⟩

/-- JSR with sp = 0xFFFF: the three pushes wrap. -/
theorem witness_CallPushesReturnAddress :
    Ready { stacked with sp := 0xFFFF } ∧ SoleWriter stacked ∧
      (∃ m1 m2 m3, memWrite stacked.cfg stacked.mem (linesAt stacked 1) (stackByte stacked 0xFFFF) false ((bankOf stacked.pc).setWidth 16) = .ok (m1, []) ∧
        memWrite stacked.cfg m1 (linesAt stacked 2) (stackByte stacked (0xFFFF + 1)) false ((hiByte (segOf stacked.pc)).setWidth 16) = .ok (m2, []) ∧
        memWrite stacked.cfg m2 (linesAt stacked 3) (stackByte stacked (0xFFFF + 2)) false ((loByte (segOf stacked.pc)).setWidth 16) = .ok (m3, [])) ∧
      StoresAt stacked (stackByte stacked 0xFFFF) :=
  ⟨by decide, rfl, ⟨_, _, _, rfl, rfl, rfl⟩, ⟨referenceRam, rfl, rfl⟩⟩

/-- The bytes that RTS and RTI pop. -/
theorem witness_Returns :
    Ready stacked ∧ SoleWriter stacked ∧
      memRead stacked.cfg stacked.mem (linesAt stacked 1) (stackByte stacked (stacked.sp - 1)) false = .ok ((0x34 : Byte).setWidth 16) ∧
      memRead stacked.cfg stacked.mem (linesAt stacked 2) (stackByte stacked (stacked.sp - 2)) false = .ok ((0x02 : Byte).setWidth 16) ∧
      memRead stacked.cfg stacked.mem (linesAt stacked 3) (stackByte stacked (stacked.sp - 3)) false = .ok ((0x00 : Byte).setWidth 16) ∧
      memRead stacked.cfg stacked.mem (linesAt stacked 4) (stackByte stacked (stacked.sp - 4)) false = .ok ((0x7F : Byte).setWidth 16) :=
  ⟨by decide, rfl, rfl, rfl, rfl, rfl⟩

theorem witness_CallThenReturnRestores :
    ∃ t u, Ready stacked ∧ SoleWriter stacked ∧ Ready u ∧ u.cfg = t.cfg ∧ u.sp = t.sp ∧
      (∀ a ∈ [stackByte stacked stacked.sp, stackByte stacked (stacked.sp + 1), stackByte stacked (stacked.sp + 2)], RamAt stacked a) ∧
      exec (.jsr ⟨0, 0x0200, .disp false 0⟩) stacked = .next t ∧ ∀ a, readByte u a = readByte t a := by
  obtain ⟨t, ht, hf⟩ := nextHas_spec (r := exec (.jsr ⟨0, 0x0200, .disp false 0⟩) stacked) (p := fun t => t.fault.isNone) (by decide)
  refine ⟨t, { t with phase := .execute }, by decide, rfl, ⟨by simpa using hf, rfl⟩, rfl, rfl, ?_, ht, fun _ => rfl⟩
  intro a ha
  simp only [List.mem_cons, List.not_mem_nil, or_false] at ha
  rcases ha with rfl | rfl | rfl <;> exact ⟨referenceRam, rfl, rfl, rfl⟩

/-- A port that answers and one that has no device, as a literal and in the low byte of a register (B = 0x0001, A = 0x1234). -/
theorem witness_InputReadsThePort :
    Ready stacked ∧ SoleWriter stacked ∧ ioReadResult stacked.cfg (linesAt stacked 1) 0x01 = .ok 0x5A ∧
      ioReadResult stacked.cfg (linesAt stacked 1) (loByte (readSel stacked 1)) = .ok 0x5A ∧
      ioReadResult stacked.cfg (linesAt stacked 1) 0x02 = .error (.busNoDevice (.io 0x02) false) ∧
      ioReadResult stacked.cfg (linesAt stacked 1) (loByte (readSel stacked 0)) = .error (.busNoDevice (.io 0x34) false) :=
  ⟨by decide, rfl, rfl, rfl, rfl, rfl⟩

theorem witness_OutputWritesThePort :
    Ready stacked ∧ SoleWriter stacked ∧ ioWriteResult stacked.cfg (linesAt stacked 1) 0x01 (loByte (readSel stacked 0)) = .ok [.io 0x01 0x34] ∧
      ioWriteResult stacked.cfg (linesAt stacked 1) (loByte (readSel stacked 1)) (loByte (readSel stacked 0)) = .ok [.io 0x01 0x34] ∧
      ioWriteResult stacked.cfg (linesAt stacked 1) 0x02 (loByte (readSel stacked 0)) = .error (.busNoDevice (.io 0x02) true) ∧
      ioWriteResult stacked.cfg (linesAt stacked 1) (loByte (readSel stacked 0)) (loByte (readSel stacked 0)) = .error (.busNoDevice (.io 0x34) true) :=
  ⟨by decide, rfl, rfl, rfl, rfl, rfl⟩

/-- A word that spans ROM and RAM, and a byte of RAM that nothing has written. -/
theorem witness_LoadFaultsKeepRegisters :
    Ready stacked ∧ SoleWriter stacked ∧
      memRead stacked.cfg stacked.mem (linesAt stacked 1) (effectiveAddr stacked ⟨0x01, 0x0000, .disp true 1⟩) true =
        .error (.busSplit 0x00FFFF) ∧
      memRead stacked.cfg stacked.mem (linesAt stacked 1) (effectiveAddr stacked ⟨0x01, 0x0004, .disp false 0⟩) false =
        .error (.busNoValue (.mem 0x010004) false) :=
  ⟨by decide, rfl, rfl, rfl⟩

/-- The stack page ends in devices that refuse: RAM at 0x010000 to 0x010005 only, and no device after it. -/
def shortStack : State :=
  { stacked with cfg := { stacked.cfg with platform := { stacked.cfg.platform with
      devices := [referenceRom, { referenceRam with last := 0x010005 }] } } }

/-- A store to ROM of each width; a word push and pop at the ends of the stack page; a byte push without a device, a byte
pop of a byte that has no value. -/
theorem witness_StoreAndStackFaultsKeepMemory :
    Ready stacked ∧ SoleWriter stacked ∧
      memWrite stacked.cfg stacked.mem (linesAt stacked 1) (effectiveAddr stacked ⟨0, 0xFFFF, .disp false 0⟩) false
        ((loByte (readSel stacked 0)).setWidth 16) = .error (.busReadOnly (.mem 0x00FFFF)) ∧
      memWrite stacked.cfg stacked.mem (linesAt stacked 1) (effectiveAddr stacked ⟨0, 0x0050, .disp false 0⟩) true (readSel stacked 0) =
        .error (.busReadOnly (.mem 0x000050)) ∧
      memWrite stacked.cfg stacked.mem (linesAt stacked 1) (stackByte stacked 0xFFFF) true (readSel stacked 0) =
        .error (.busSplit 0x01FFFF) ∧
      memRead stacked.cfg stacked.mem (linesAt stacked 1) (stackByte stacked (1 - 2)) true = .error (.busSplit 0x01FFFF) ∧
      memRead stacked.cfg stacked.mem (linesAt stacked 1) (stackByte stacked (0 - 1)) false = .error (.busNoValue (.mem 0x01FFFF) false) ∧
      memWrite shortStack.cfg shortStack.mem (linesAt shortStack 1) (stackByte shortStack 6) false
        ((loByte (readSel shortStack 0)).setWidth 16) = .error (.busNoDevice (.mem 0x010006) true) :=
  ⟨by decide, rfl, rfl, rfl, rfl, rfl, rfl, rfl⟩

/-- That stack page with a stack offset. -/
def shortAt (sp : Word) : State := { shortStack with sp := sp }

/-- An NMI entry on that stack page, with a stack offset and a vector slot. -/
def shortEntry (sp : Word) (slot : Addr) : State :=
  { shortStack with sp := sp, phase := .interrupt, istat := .nmi, cfg := { shortStack.cfg with nmiVectorAddr := slot } }

/-- JSR with sp = 6, 5 and 4: its first, its second and its third push has no device. -/
theorem witness_CallFaultForm :
    ∀ k : Fin 3, ∃ s before b rest m log, s = shortAt (6 - BitVec.ofNat 16 k.val) ∧ Ready s ∧ SoleWriter s ∧
      before.length = k.val ∧ [bankOf s.pc, hiByte (segOf s.pc), loByte (segOf s.pc)] = before ++ b :: rest ∧
      BytesPushed s 1 s.sp s.mem s.accepted before m log ∧
      memWrite s.cfg m (linesAt s (1 + before.length)) (stackSlot s before.length) false (b.setWidth 16) =
        .error (.busNoDevice (.mem 0x010006) true) := by
  intro k
  match k with
  | 0 => exact ⟨_, [], _, _, _, _, rfl, ⟨rfl, rfl⟩, rfl, rfl, rfl, ⟨rfl, rfl⟩, rfl⟩
  | 1 => exact ⟨_, [_], _, _, _, _, rfl, ⟨rfl, rfl⟩, rfl, rfl, rfl, ⟨_, _, rfl, rfl, rfl⟩, rfl⟩
  | 2 => exact ⟨_, [_, _], _, _, _, _, rfl, ⟨rfl, rfl⟩, rfl, rfl, rfl, ⟨_, _, rfl, _, _, rfl, rfl, rfl⟩, rfl⟩

/-- RTS and RTI with sp = 0, 1, 2 and 3: the pop at the wrapped offset 0xFFFF, after as many pops, has no device. -/
theorem witness_ReturnFaultForm :
    ∀ k : Fin 4, ∃ s popped, s = shortAt (BitVec.ofNat 16 k.val) ∧ Ready s ∧ SoleWriter s ∧ popped.length = k.val ∧
      BytesPopped s 1 s.sp popped ∧
      memRead s.cfg s.mem (linesAt s (1 + popped.length)) (stackByte s (s.sp - BitVec.ofNat 16 (popped.length + 1))) false =
        .error (.busNoDevice (.mem 0x01FFFF) false) := by
  intro k
  match k with
  | 0 => exact ⟨_, [], rfl, ⟨rfl, rfl⟩, rfl, rfl, trivial, rfl⟩
  | 1 => exact ⟨_, [0x7F], rfl, ⟨rfl, rfl⟩, rfl, rfl, ⟨rfl, trivial⟩, rfl⟩
  | 2 => exact ⟨_, [0x00, 0x7F], rfl, ⟨rfl, rfl⟩, rfl, rfl, ⟨rfl, rfl, trivial⟩, rfl⟩
  | 3 => exact ⟨_, [0x02, 0x00, 0x7F], rfl, ⟨rfl, rfl⟩, rfl, rfl, ⟨rfl, rfl, rfl, trivial⟩, rfl⟩

/-- NMI entry with a slot without a device, with a slot split after its first byte, and with sp = 6, 5, 4 and 3: the push
at offset 6, after as many pushes, has no device. -/
theorem witness_EntryFaultForm :
    (∃ s, s = shortEntry 4 0x010006 ∧ AtInterrupt s ∧ SoleWriter s ∧
      memRead s.cfg s.mem (linesAt s 2) s.cfg.nmiVectorAddr false = .error (.busNoDevice (.mem 0x010006) false)) ∧
    (∃ s, s = shortEntry 4 0x00FFFE ∧ AtInterrupt s ∧ SoleWriter s ∧
      memRead s.cfg s.mem (linesAt s 2) s.cfg.nmiVectorAddr false = .ok 0 ∧
      memRead s.cfg s.mem (linesAt s 3) (s.cfg.nmiVectorAddr + 1) true = .error (.busSplit 0x00FFFF)) ∧
    ∀ k : Fin 4, ∃ s before b rest m log, s = shortEntry (6 - BitVec.ofNat 16 k.val) 0x000030 ∧
      s.fault = none ∧ s.phase = .interrupt ∧ s.cyc = 1 ∧ s.istat = .nmi ∧ SoleWriter s ∧ before.length = k.val ∧
      memRead s.cfg s.mem (linesAt s 2) s.cfg.nmiVectorAddr false = .ok 0 ∧
      memRead s.cfg s.mem (linesAt s 3) (s.cfg.nmiVectorAddr + 1) true = .ok 0 ∧
      [packFlags s.cfg.flagLayout s.flags, bankOf s.pc, hiByte (segOf s.pc), loByte (segOf s.pc)] = before ++ b :: rest ∧
      BytesPushed s 4 s.sp s.mem s.accepted before m log ∧
      memWrite s.cfg m (linesAt s (4 + before.length)) (stackSlot s before.length) false (b.setWidth 16) =
        .error (.busNoDevice (.mem 0x010006) true) := by
  refine ⟨⟨_, rfl, by decide, rfl, rfl⟩, ⟨_, rfl, by decide, rfl, rfl, rfl⟩, ?_⟩
  intro k
  match k with
  | 0 => exact ⟨_, [], _, _, _, _, rfl, rfl, rfl, rfl, rfl, rfl, rfl, rfl, rfl, rfl, ⟨rfl, rfl⟩, rfl⟩
  | 1 => exact ⟨_, [_], _, _, _, _, rfl, rfl, rfl, rfl, rfl, rfl, rfl, rfl, rfl, rfl, ⟨_, _, rfl, rfl, rfl⟩, rfl⟩
  | 2 => exact ⟨_, [_, _], _, _, _, _, rfl, rfl, rfl, rfl, rfl, rfl, rfl, rfl, rfl, rfl,
      ⟨_, _, rfl, _, _, rfl, rfl, rfl⟩, rfl⟩
  | 3 => exact ⟨_, [_, _, _], _, _, _, _, rfl, rfl, rfl, rfl, rfl, rfl, rfl, rfl, rfl, rfl,
      ⟨_, _, rfl, _, _, rfl, _, _, rfl, rfl, rfl⟩, rfl⟩

/-- A JSR whose second push faults has written one byte (R431), and sp has moved by 2 (log entry 13). -/
theorem test_jsr_second_push_fault :
    (match exec (.jsr ⟨0, 0x0200, .disp false 0⟩) (shortAt 5) with
      | .fault (.busNoDevice t) => t.sp == 7 && readByte t 0x010005 == some (bankOf shortStack.pc) && t.pc == shortStack.pc
      | _ => false) = true := by
  decide

end Sys2Proof.Tests
end

section
/-! PROOFS. Registers, selectors, the flag byte and addresses (spec 10_state.md R20 to R31). -/

namespace Sys2Proof.Proofs

open Sys2Proof.Machine Sys2Proof.Laws

/-! ## Bytes of a word, bank and segment of an address -/

theorem toNat_hiByte (w : Word) : (hiByte w).toNat = w.toNat / 256 := by
  have := w.isLt
  simp only [hiByte, BitVec.extractLsb'_toNat, Nat.shiftRight_eq_div_pow]
  omega

theorem toNat_loByte (w : Word) : (loByte w).toNat = w.toNat % 256 := by
  simp [loByte]

theorem toNat_joinWord (hi lo : Byte) : (joinWord hi lo).toNat = 256 * hi.toNat + lo.toNat := by
  rw [joinWord, BitVec.toNat_append, ← Nat.shiftLeft_add_eq_or_of_lt lo.isLt, Nat.shiftLeft_eq]
  omega

theorem toNat_bankOf (a : Addr) : (bankOf a).toNat = a.toNat / 65536 := by
  have := a.isLt
  simp only [bankOf, BitVec.extractLsb'_toNat, Nat.shiftRight_eq_div_pow]
  omega

theorem toNat_segOf (a : Addr) : (segOf a).toNat = a.toNat % 65536 := by
  simp [segOf]

theorem toNat_joinAddr (bank : Byte) (seg : Word) : (joinAddr bank seg).toNat = 65536 * bank.toNat + seg.toNat := by
  rw [joinAddr, BitVec.toNat_append, ← Nat.shiftLeft_add_eq_or_of_lt seg.isLt, Nat.shiftLeft_eq]
  omega

/-- An address is its bank and its segment (R29). -/
theorem joinAddr_bankOf_segOf (a : Addr) : joinAddr (bankOf a) (segOf a) = a := by
  apply BitVec.eq_of_toNat_eq
  rw [toNat_joinAddr, toNat_bankOf, toNat_segOf]
  omega

/-- Address arithmetic as a number (R29). -/
theorem toNat_offsetAddr (a : Addr) (k : Int) : ((offsetAddr a k).toNat : Int) = (a.toNat + k) % 2 ^ 24 := by
  rw [offsetAddr, BitVec.toNat_ofInt, Int.toNat_of_nonneg (by omega)]
  rfl

/-! ## Registers and their halves -/

theorem get_set_same (rs : Regs) (r : RegName) (v : Word) : (rs.set r v).get r = v := by
  cases r <;> rfl

theorem get_set_ne (rs : Regs) {r q : RegName} (h : q ≠ r) (v : Word) : (rs.set r v).get q = rs.get q := by
  cases r <;> cases q <;> simp_all [Regs.get, Regs.set]

theorem toNat_setHigh (w : Word) (b : Byte) : (setHigh w b).toNat = 256 * b.toNat + w.toNat % 256 := by
  rw [setHigh, toNat_joinWord, toNat_loByte]

theorem toNat_setLow (w : Word) (b : Byte) : (setLow w b).toNat = 256 * (w.toNat / 256) + b.toNat := by
  rw [setLow, toNat_joinWord, toNat_hiByte]

theorem toNat_readTarget_high (rs : Regs) (r : RegName) : (readTarget rs (.half r true)).toNat = (rs.get r).toNat / 256 := by
  have := (rs.get r).isLt
  simp only [readTarget, halfOf, if_true, BitVec.toNat_setWidth, toNat_hiByte]
  omega

theorem toNat_readTarget_low (rs : Regs) (r : RegName) : (readTarget rs (.half r false)).toNat = (rs.get r).toNat % 256 := by
  simp only [readTarget, halfOf, Bool.false_eq_true, if_false, BitVec.toNat_setWidth, toNat_loByte]
  omega

/-! ## Selectors -/

/-- With bit 3 clear a selector names the full register of its two low bits, under every layout (R22). -/
theorem decodeSelector_full (l : HalfSelLayout) {sel : Selector} (h : sel.getLsbD 3 = false) :
    decodeSelector l sel = .full (regOfBits (sel.getLsbD 1) (sel.getLsbD 0)) := by
  rw [decodeSelector, h]
  rfl

/-- Adding 4 to a selector below 4 sets bit 2, which the decode ignores (R22). -/
theorem selector_add_four_bits : ∀ sel : Selector, sel.toNat < 4 →
    sel.getLsbD 3 = false ∧ (sel + 4).getLsbD 3 = false ∧
      (sel + 4).getLsbD 1 = sel.getLsbD 1 ∧ (sel + 4).getLsbD 0 = sel.getLsbD 0 := by
  decide

/-- The two low bits of a selector below 4 are the index of its register (R20, R22). -/
theorem regOfBits_index : ∀ sel : Selector, sel.toNat < 4 →
    ([RegName.A, .B, .C, .D].map Target.full)[sel.toNat]? = some (.full (regOfBits (sel.getLsbD 1) (sel.getLsbD 0))) := by
  decide

/-- Settles O3, by the three kinds of target: what a register write leaves in its own and in another register. -/
theorem writeSelectorKeepsOtherHalf : Obligations.WriteSelectorKeepsOtherHalf := by
  intro s sel v
  refine ⟨?_, rfl⟩
  simp only [writeSel_regs]
  cases decodeSelector s.cfg.halfSel sel with
  | full r => exact ⟨get_set_same .., fun q hq => get_set_ne _ hq _⟩
  | half r high =>
    cases high with
    | true =>
      refine ⟨?_, fun q hq => get_set_ne _ hq _⟩
      rw [writeTarget, get_set_same, toNat_setHigh, toNat_loByte]
    | false =>
      refine ⟨?_, fun q hq => get_set_ne _ hq _⟩
      rw [writeTarget, get_set_same, toNat_setLow, toNat_loByte]

/-- Settles O1: the default layout by evaluation, 4 to 7 by the bits of the selector. -/
theorem selectorDecodeAliases : Obligations.SelectorDecodeAliases := by
  refine ⟨by decide, fun l sel hsel => ?_⟩
  obtain ⟨h3, h3', h1, h0⟩ := selector_add_four_bits sel hsel
  rw [decodeSelector_full l h3, decodeSelector_full l h3', h1, h0]
  exact ⟨rfl, regOfBits_index sel hsel⟩

/-- Settles O2, by the three kinds of target. -/
theorem readSelectorValue : Obligations.ReadSelectorValue := by
  intro s sel
  rw [readSel]
  cases decodeSelector s.cfg.halfSel sel with
  | full r => rfl
  | half r high =>
    cases high with
    | true => exact toNat_readTarget_high s.regs r
    | false => exact toNat_readTarget_low s.regs r

/-- Settles O5. -/
theorem addressArithmeticWraps : Obligations.AddressArithmeticWraps :=
  ⟨toNat_offsetAddr, by decide, by decide, fun a => ⟨joinAddr_bankOf_segOf a, toNat_bankOf a, toNat_segOf a⟩⟩

/-! ## The flag byte -/

/-- A flag stands at its own bit and nowhere else (R28). -/
theorem getLsbD_flagBit (p q : Fin 8) (x : Bool) : (flagBit p x).getLsbD q = (x && decide (p = q)) := by
  revert p q x
  decide

/-- Each bit of the packed byte is the flag that the layout puts there (R28). -/
theorem getLsbD_packFlags (l : FlagLayout) (f : Flags) (q : Fin 8) :
    (packFlags l f).getLsbD q =
      (f.z && decide (l.z = q) || f.n && decide (l.n = q) || f.c && decide (l.c = q) || f.v && decide (l.v = q) ||
        f.lt && decide (l.lt = q) || f.gt && decide (l.gt = q) || f.i && decide (l.i = q)) := by
  simp only [packFlags, BitVec.getLsbD_or, getLsbD_flagBit]

/-- With a bit for each flag, no flag is lost in the flag byte (R28). -/
theorem unpackFlags_packFlags {l : FlagLayout} (h : l.wf = true) (f : Flags) : unpackFlags l (packFlags l f) = f := by
  simp only [FlagLayout.wf, List.nodup_cons, List.mem_cons, List.not_mem_nil, not_or, decide_eq_true_eq] at h
  obtain ⟨z, n, c, v, lt, gt, i⟩ := f
  simp only [unpackFlags, getLsbD_packFlags]
  grind

/-- The default layout (R28). -/
theorem packFlags_reference (f : Flags) : packFlags Config.reference.flagLayout f =
    0#1 ++ BitVec.ofBool f.i ++ BitVec.ofBool f.gt ++ BitVec.ofBool f.lt ++ BitVec.ofBool f.v ++
      BitVec.ofBool f.c ++ BitVec.ofBool f.n ++ BitVec.ofBool f.z := by
  obtain ⟨z, n, c, v, lt, gt, i⟩ := f
  revert z n c v lt gt i
  decide

/-- Settles O4. -/
theorem flagByteRoundTrip : Obligations.FlagByteRoundTrip := by
  refine ⟨fun l f h => unpackFlags_packFlags h f, packFlags_reference, fun b => ?_⟩
  simp [unpackFlags, Config.reference]

end Sys2Proof.Proofs
end

section
/-! PROOFS. One cycle and one step of the engine: the parameters stay (spec 10_state.md R41), the engine's state moves along the arrows of R32. -/

namespace Sys2Proof.Proofs

open Sys2Proof.Machine Sys2Proof.Laws

/-! ## What a tick that answers a next state leaves -/

/-- Such a tick resolves what its action leaves, the counter incremented, and the action has raised no fault (R120). -/
theorem tick_next_resolve {act : Action} {s t : State} (h : tick act s = .next t) :
    (act (begun s)).fault = none ∧ t = resolve { act (begun s) with cyc := (act (begun s)).cyc + 1 } := by
  obtain ⟨-, hengine, ht, -⟩ := tick_next h
  cases hact : (act (begun s)).fault with
  | none => exact ⟨rfl, by rw [ht, engineCycle_eq rfl hact]⟩
  | some f =>
    have hact' : (act (defaultDrive (sample (environment s)))).fault = some f := hact
    simp [engineCycle, hact'] at hengine

theorem resolve_cfg (s : State) : (resolve s).cfg = s.cfg := by rw [resolve_eq]

theorem resolve_phase (s : State) : (resolve s).phase = s.phase := by rw [resolve_eq]

theorem tick_next_cfg {act : Action} {s t : State} (h : tick act s = .next t) : t.cfg = (act (begun s)).cfg := by
  rw [(tick_next_resolve h).2, resolve_cfg]

theorem tick_next_phase {act : Action} {s t : State} (h : tick act s = .next t) :
    t.phase = (act (begun s)).phase := by
  rw [(tick_next_resolve h).2, resolve_phase]

/-- A cycle that raises a fault answers no next state (R433). -/
theorem tick_raise_ne_next (f : State → FaultReg) (s t : State) : tick (fun u => raise (f u) u) s ≠ .next t :=
  fun h => by simpa using (tick_next_resolve h).1

/-- A next state inside a sequence comes from a cycle of that sequence, the others being SEQ_RANGE (R127). -/
theorem tickAt_next {acts : List Action} {s t : State} (h : tickAt acts s = .next t) :
    ∃ act ∈ acts, tick act s = .next t := by
  unfold tickAt at h
  split at h
  · exact absurd h (tick_raise_ne_next _ s t)
  · split at h
    next act hact => exact ⟨act, List.mem_of_getElem? hact, h⟩
    next => exact absurd h (tick_raise_ne_next _ s t)

/-- A next state in Execute comes from an operand cycle or from a cycle of an instruction (R125). -/
theorem executeCycle_next {s t : State} (h : executeCycle s = .next t) :
    ∃ mn mode i, ∃ act ∈ operandCycles mn mode ++ schedule i, tick act s = .next t := by
  unfold executeCycle at h
  split at h
  next => exact absurd h (tick_raise_ne_next _ s t)
  next mn mode _ =>
    split at h
    next i _ => exact ⟨mn, mode, i, tickAt_next h⟩
    next => exact absurd h (tick_raise_ne_next _ s t)

/-! ## The parameters -/

theorem tick_keeps_cfg {act : Action} (hact : Quiet act) {s t : State} (h : tick act s = .next t) : t.cfg = s.cfg := by
  rw [tick_next_cfg h, hact.cfg, begun_cfg]

theorem cycle_keeps_cfg {s t : State} (h : cycle s = .next t) : t.cfg = s.cfg := by
  obtain ⟨act, hcycle, hact, -⟩ := cycle_action s
  exact tick_keeps_cfg hact (hcycle ▸ h)

theorem runCycles_keeps_cfg {acts : List Action} (hacts : ∀ act ∈ acts, Quiet act) {s t : State}
    (h : runCycles acts s = .next t) : t.cfg = s.cfg :=
  runCycles_keeps (P := fun u => u.cfg = s.cfg)
    (fun act hact _ _ hu hv => (tick_keeps_cfg (hacts act hact) hv).trans hu) rfl h

theorem AllPlain.quiet {acts : List Action} (h : AllPlain acts) : ∀ act ∈ acts, Quiet act :=
  fun act hact => (h act hact).toQuiet

theorem interruptCycles_quiet : ∀ act ∈ interruptCycles, Quiet act := fun _ hact =>
  have ⟨_, hc⟩ := List.getElem?_of_mem hact
  (interrupt_action hc).1

theorem exec_keeps_cfg {i : Instr} {s t : State} (h : exec i s = .next t) : t.cfg = s.cfg := by
  rw [exec_eq_schedule] at h
  exact runCycles_keeps_cfg (AllPlain.quiet (plain_schedule i)) h

theorem executeLatched_keeps_cfg {mn : Mnemonic} {mode : Mode} {s t : State} (h : executeLatched mn mode s = .next t) :
    t.cfg = s.cfg := by
  unfold executeLatched at h
  split at h
  next => exact exec_keeps_cfg h
  next => exact absurd h (tick_raise_ne_next _ s t)

theorem executeFetched_keeps_cfg {s t : State} (h : executeFetched s = .next t) : t.cfg = s.cfg := by
  unfold executeFetched at h
  split at h
  next => exact absurd h (tick_raise_ne_next _ s t)
  next mn mode _ =>
    obtain ⟨u, hoperand, hexec⟩ := andThen_eq_next.mp h
    rw [executeLatched_keeps_cfg hexec, runCycles_keeps_cfg (AllPlain.quiet (plain_operand mn mode)) hoperand]

theorem runInstruction_keeps_cfg {s t : State} (h : runInstruction s = .next t) : t.cfg = s.cfg := by
  obtain ⟨u, hfetch, hexecute⟩ := andThen_eq_next.mp h
  rw [executeFetched_keeps_cfg hexecute, runCycles_keeps_cfg (AllPlain.quiet plain_fetch) hfetch]

/-- Settles O18, by the sequence that the step runs. -/
theorem stepKeepsConfiguration : Obligations.StepKeepsConfiguration := by
  intro s t h
  unfold step nextSequence at h
  split at h
  next =>
    split at h
    next => exact runCycles_keeps_cfg (AllPlain.quiet plain_reset) h
    next => exact runInstruction_keeps_cfg h
    next => exact runCycles_keeps_cfg interruptCycles_quiet h
    next => exact cycle_keeps_cfg h
    next => exact cycle_keeps_cfg h
  next => exact cycle_keeps_cfg h

/-! ## The engine's state -/

/-- The action leaves the engine's state or sets it to `p`. -/
def MovesTo (p : Phase) (act : Action) : Prop := ∀ u, (act u).phase = u.phase ∨ (act u).phase = p

theorem resetCycles_phase : ∀ act ∈ resetCycles, MovesTo .fetch act := by
  simp [resetCycles, MovesTo]

theorem fetchCycles_phase : ∀ act ∈ fetchCycles, MovesTo .execute act := by
  simp [fetchCycles, MovesTo]

theorem interruptCycles_phase : ∀ act ∈ interruptCycles, MovesTo .fetch act := by
  simp [interruptCycles, MovesTo]

theorem operandCycles_phase (mn : Mnemonic) (mode : Mode) :
    ∀ act ∈ operandCycles mn mode, ∀ u, (act u).phase = u.phase := by
  cases mode <;> simp [operandCycles, literalCycle, bankCycle, segmentCycle]

/-- The last cycle of the list ends in the finish step, the cycles before it leave the engine's state (R126). -/
def EndsInFinish (acts : List Action) : Prop :=
  ∃ (before : List Action) (last : Action), acts = before ++ [fun s => finish (last s)] ∧ ∀ act ∈ before, ∀ u, (act u).phase = u.phase

theorem endsInFinish_single (last : Action) : EndsInFinish [fun s => finish (last s)] :=
  ⟨[], last, rfl, by simp⟩

theorem endsInFinish_cons {act : Action} {rest : List Action} (hact : ∀ u, (act u).phase = u.phase)
    (hrest : EndsInFinish rest) : EndsInFinish (act :: rest) := by
  obtain ⟨before, last, rfl, hbefore⟩ := hrest
  exact ⟨act :: before, last, rfl, by simpa [hact] using hbefore⟩

/-- A request and the cycle that uses its answer: T-ABS-READ, T-ABS-STORE, T-PUSH, T-POP and the IO templates. -/
theorem endsInFinish_pair {request : Action} (hrequest : ∀ u, (request u).phase = u.phase) (last : Action) :
    EndsInFinish [request, fun s => finish (last s)] :=
  endsInFinish_cons hrequest (endsInFinish_single last)

theorem returnPops_endsInFinish {rest : List Action} (h : EndsInFinish rest) : EndsInFinish (returnPops ++ rest) :=
  endsInFinish_cons (fun _ => rfl) (endsInFinish_cons (fun _ => rfl) (endsInFinish_cons (fun _ => rfl) h))

/-- Every instruction's cycles end in the finish step: the cases are the templates of R140. -/
theorem schedule_endsInFinish (i : Instr) : EndsInFinish (schedule i) := by
  cases i with
  | addAbs | addbAbs | subAbs | subbAbs | andAbs | andbAbs | orAbs | orbAbs | xorAbs | xorbAbs | cmpAbs | cmpbAbs
  | movAbs | movbAbs | str | strb | push | pushb | pop | popb | inImm | inReg | outImm | outReg =>
    refine endsInFinish_pair ?_ _
    exact fun _ => rfl
  | jsr =>
    refine endsInFinish_cons ?_ (endsInFinish_cons ?_ (endsInFinish_pair ?_ _))
    all_goals exact fun _ => rfl
  | rts => exact returnPops_endsInFinish (endsInFinish_single _)
  | rti =>
    refine returnPops_endsInFinish (endsInFinish_pair ?_ _)
    exact fun _ => rfl
  | _ => exact endsInFinish_single _

/-- After the finish step the engine is at cycle 1 of Fetch, Interrupt or Halt with nothing requested (R126). -/
theorem tick_finish_next {last : Action} {s t : State} (h : tick (fun u => finish (last u)) s = .next t) :
    (t.phase = .fetch ∨ t.phase = .interrupt ∨ t.phase = .halt) ∧ t.cyc = 1 ∧ t.busEnable = false ∧
      t.ioEnable = false := by
  have ht := (tick_next_resolve h).2
  rw [resolve_idle rfl rfl] at ht
  subst ht
  refine ⟨?_, rfl, rfl, rfl⟩
  simp only [finish_phase]
  split
  · exact .inr (.inr rfl)
  · split
    · exact .inr (.inl rfl)
    · exact .inl rfl

theorem tickAt_next_phase {p : Phase} {acts : List Action} (hacts : ∀ act ∈ acts, MovesTo p act) {s t : State}
    (h : tickAt acts s = .next t) : t.phase = s.phase ∨ t.phase = p := by
  obtain ⟨act, hmem, htick⟩ := tickAt_next h
  simpa [tick_next_phase htick] using hacts act hmem (begun s)

theorem executeCycle_next_phase {s t : State} (h : executeCycle s = .next t) :
    t.phase = s.phase ∨ (t.phase = .fetch ∨ t.phase = .interrupt ∨ t.phase = .halt) ∧ t.cyc = 1 ∧
      t.busEnable = false ∧ t.ioEnable = false := by
  obtain ⟨mn, mode, i, act, hmem, htick⟩ := executeCycle_next h
  obtain ⟨before, last, hschedule, hbefore⟩ := schedule_endsInFinish i
  have keeps (hact : ∀ u, (act u).phase = u.phase) : t.phase = s.phase := by
    rw [tick_next_phase htick, hact, begun_phase]
  rw [hschedule, List.mem_append, List.mem_append, List.mem_singleton] at hmem
  obtain hmem | hmem | rfl := hmem
  · exact .inl (keeps (operandCycles_phase mn mode act hmem))
  · exact .inl (keeps (hbefore act hmem))
  · exact .inr (tick_finish_next htick)

/-- Settles O26, by the engine's state before the cycle. -/
theorem phaseTransitions : Obligations.PhaseTransitions := by
  intro s t h
  rcases phase_cases s.phase with hs | hs | hs | hs | hs
  · rw [cycle_reset hs] at h
    exact (tickAt_next_phase resetCycles_phase h).imp id fun ht => .inl ⟨hs, ht⟩
  · rw [cycle_fetch hs] at h
    exact (tickAt_next_phase fetchCycles_phase h).imp id fun ht => .inr (.inl ⟨hs, ht⟩)
  · rw [cycle_halt hs] at h
    exact .inl ((tick_next_phase h).trans (begun_phase s))
  · rw [cycle_execute hs] at h
    exact (executeCycle_next_phase h).imp id fun ht => .inr (.inr (.inl ⟨hs, ht⟩))
  · rw [cycle_interrupt hs] at h
    exact (tickAt_next_phase interruptCycles_phase h).imp id fun ht => .inr (.inr (.inr ⟨hs, ht⟩))

/-! ## Reset and construction -/

/-- reset() records no fault exactly under a configuration whose table and image are accepted (R432, R450). -/
theorem configFault_eq_none_iff (c : Config) :
    configFault c = none ↔ firstBadRow c.opcodeTable = none ∧ imageFits c.platform = true := by
  unfold configFault
  split
  next h => simp [h]
  next h => simp [h]

theorem construct_wf (c : Config) : Memory.wf c.platform (construct c).mem := by
  show Memory.wf c.platform (if imageFits c.platform then loadImage c.platform else [])
  split
  · exact loadImage_wf c.platform
  · exact nil_wf c.platform

/-- The Reset sequence has three cycles, and reset() stands at the first (R132, R451). -/
theorem hostReset_counterInRange {s : State} (h : configFault s.cfg = none) : CounterInRange (hostReset s) :=
  ⟨h, le_rfl, show 1 ≤ 3 by decide⟩

/-- Settles O24. -/
theorem resetMeetsInvariants : Obligations.ResetMeetsInvariants :=
  ⟨nil_wf _, construct_wf, ⟨rfl, le_rfl, show 1 ≤ 3 by decide⟩, fun _ => hostReset_counterInRange⟩

/-- Settles O35: each field by the definition of reset(), the fault register by the configuration. -/
theorem resetRegisterValues : Obligations.ResetRegisterValues := by
  intro s
  exact ⟨rfl, rfl, rfl, rfl, rfl, rfl, rfl, rfl, (configFault_eq_none_iff s.cfg).mpr, rfl, rfl, rfl, rfl, rfl, rfl⟩

end Sys2Proof.Proofs
end

section
/-! PROOFS. Memory: which device a transaction reaches and what it ends in, read after write, and what a cycle and a step may change (spec 20_memory.md R61 to R85). -/

namespace Sys2Proof.Proofs

open Sys2Proof.Machine Sys2Proof.Laws

/-! ## The device of an address and of a port -/

theorem claims_iff (d : MemDevice) (a : Addr) : claims d a = true ↔ d.first ≤ a ∧ a ≤ d.last := by
  simp [claims]

theorem claims_of_firstDevice {p : Platform} {a : Addr} {d : MemDevice} (h : firstDevice p a = some d) :
    claims d a = true :=
  List.find?_some (p := fun d => claims d a) h

theorem firstDevice_eq_some_iff (p : Platform) (a : Addr) (d : MemDevice) : firstDevice p a = some d ↔
    ∃ before after, p.devices = before ++ d :: after ∧ (d.first ≤ a ∧ a ≤ d.last) ∧
      ∀ e ∈ before, ¬(e.first ≤ a ∧ a ≤ e.last) := by
  simp only [firstDevice, List.find?_eq_some_iff_append, Bool.not_eq_true', ← Bool.not_eq_true, claims_iff]
  exact ⟨fun ⟨hd, before, after, h, hbefore⟩ => ⟨before, after, h, hd, hbefore⟩,
    fun ⟨before, after, h, hd, hbefore⟩ => ⟨hd, before, after, h, hbefore⟩⟩

theorem firstIoDevice_eq_some_iff (p : Platform) (port : Byte) (d : IoDevice) : firstIoDevice p port = some d ↔
    ∃ before after, p.ioDevices = before ++ d :: after ∧ d.port = port ∧ ∀ e ∈ before, e.port ≠ port := by
  simp only [firstIoDevice, List.find?_eq_some_iff_append, Bool.not_eq_true', beq_iff_eq, beq_eq_false_iff_ne]
  exact ⟨fun ⟨hd, before, after, h, hbefore⟩ => ⟨before, after, h, hd, hbefore⟩,
    fun ⟨before, after, h, hd, hbefore⟩ => ⟨hd, before, after, h, hbefore⟩⟩

/-! ## What a transaction on the memory bus ends in (R74) -/

section

variable {c : Config} {m : Memory} {l : Lines} {a : Addr} {wide : Bool} {d : MemDevice}

theorem memRead_of_no_device (h : firstDevice c.platform a = none) :
    memRead c m l a wide = .error (.busNoDevice (.mem a) false) := by
  simp [memRead, h]

theorem memWrite_of_no_device (h : firstDevice c.platform a = none) (v : Word) :
    memWrite c m l a wide v = .error (.busNoDevice (.mem a) true) := by
  simp [memWrite, h]

theorem memRead_of_split (h : firstDevice c.platform a = some d) (hsplit : wide = true ∧ ¬claims d (a + 1) = true) :
    memRead c m l a wide = .error (.busSplit a) := by
  simp only [memRead, h]
  exact if_pos (by simpa using hsplit)

theorem memWrite_of_split (h : firstDevice c.platform a = some d) (hsplit : wide = true ∧ ¬claims d (a + 1) = true)
    (v : Word) : memWrite c m l a wide v = .error (.busSplit a) := by
  simp only [memWrite, h]
  exact if_pos (by simpa using hsplit)

theorem memRead_of_device (h : firstDevice c.platform a = some d) (hin : wide = true → claims d (a + 1) = true) :
    memRead c m l a wide = readOutcome (.mem a) wide (deviceRead c m l d a wide) := by
  simp only [memRead, h]
  exact if_neg (by simpa using hin)

theorem memWrite_of_store (h : firstDevice c.platform a = some d) (hin : wide = true → claims d (a + 1) = true)
    (hstore : d.onWrite = .store) (v : Word) : memWrite c m l a wide v =
      .ok (writeBytes c.platform m a (if wide then [hiByte v, loByte v] else [loByte v]), []) := by
  simp only [memWrite, h, hstore]
  exact if_neg (by simpa using hin)

theorem memWrite_of_rules (h : firstDevice c.platform a = some d) (hin : wide = true → claims d (a + 1) = true)
    {rs : List BusRule} (hrs : d.onWrite = .rules rs ∨ d.onWrite = .external ∧ rs = l.busWrites) (v : Word) :
    memWrite c m l a wide v = deviceWrite m rs a wide v := by
  obtain hrs | ⟨hrs, rfl⟩ := hrs
  · simp only [memWrite, h, hrs]
    exact if_neg (by simpa using hin)
  · simp only [memWrite, h, hrs]
    exact if_neg (by simpa using hin)

theorem deviceRead_of_memory (hmem : d.onRead = .memory) :
    deviceRead c m l d a wide = memoryResult c.platform m a wide := by
  simp [deviceRead, hmem]

theorem deviceRead_of_rules {rs : List BusRule}
    (hrs : d.onRead = .rules rs ∨ d.onRead = .external ∧ rs = l.busReads) :
    deviceRead c m l d a wide = busAnswer rs a wide none := by
  obtain hrs | ⟨hrs, rfl⟩ := hrs
  · simp [deviceRead, hrs]
  · simp [deviceRead, hrs]

/-- A device that keeps bytes answers a byte read with its byte (R67). -/
theorem memRead_byte_of_cell (h : firstDevice c.platform a = some d) (hmem : d.onRead = .memory) {b : Byte}
    (hb : readCell c.platform m a = some b) : memRead c m l a false = .ok (b.setWidth 16) := by
  rw [memRead_of_device h (by simp), deviceRead_of_memory hmem]
  simp [memoryResult, hb, readOutcome]

/-- A device that keeps bytes answers a word read with its two bytes, big-endian (R66). -/
theorem memRead_word_of_cells (h : firstDevice c.platform a = some d) (hin : claims d (a + 1) = true)
    (hmem : d.onRead = .memory) {hi lo : Byte} (hhi : readCell c.platform m a = some hi)
    (hlo : readCell c.platform m (a + 1) = some lo) : memRead c m l a true = .ok (joinWord hi lo) := by
  rw [memRead_of_device h fun _ => hin, deviceRead_of_memory hmem]
  simp only [memoryResult, joinCells, hhi, hlo, readOutcome, if_true]

/-- A byte without a value ends a read in BUS_NO_VALUE (R78, log entry 2). -/
theorem memRead_of_no_value (h : firstDevice c.platform a = some d) (hin : wide = true → claims d (a + 1) = true)
    (hmem : d.onRead = .memory)
    (hnone : readCell c.platform m a = none ∨ wide = true ∧ readCell c.platform m (a + 1) = none) :
    memRead c m l a wide = .error (.busNoValue (.mem a) false) := by
  rw [memRead_of_device h hin, deviceRead_of_memory hmem]
  have hresult : memoryResult c.platform m a wide = .noValue := by
    obtain hnone | ⟨rfl, hnone⟩ := hnone
    · simp [memoryResult, joinCells, hnone]
    · cases hcell : readCell c.platform m a <;> simp only [memoryResult, joinCells, hcell, hnone, if_true]
  rw [hresult, readOutcome]

end

theorem memoryTransaction (c : Config) (m : Memory) (l : Lines) (a : Addr) (wide : Bool) (v : Word) :
    MemoryTransaction c m l a wide v := by
  unfold MemoryTransaction
  split
  next h => exact ⟨memRead_of_no_device h, memWrite_of_no_device h v⟩
  next d h =>
    simp only [← claims_iff]
    split
    next hsplit =>
      exact ⟨memRead_of_split h hsplit, memWrite_of_split h hsplit v⟩
    next hsplit =>
      have hin : wide = true → claims d (a + 1) = true := by simpa using hsplit
      refine ⟨fun hmem => ⟨?_, ?_, memRead_of_no_value h hin hmem⟩, fun rs hrs => ?_,
        fun hstore => ⟨_, memWrite_of_store h hin hstore v⟩, fun rs hrs => ?_⟩
      · rintro b rfl hb
        exact memRead_byte_of_cell h hmem hb
      · rintro hi lo rfl hhi hlo
        exact memRead_word_of_cells h (hin rfl) hmem hhi hlo
      · rw [memRead_of_device h hin, deviceRead_of_rules hrs]
        cases busAnswer rs a wide none <;> cases wide <;> rfl
      · rw [memWrite_of_rules h hin hrs, deviceWrite]
        cases busAnswer rs a wide (some v) <;> rfl

/-! ## What a transaction on the IO bus ends in (R75) -/

theorem ioRulesIn_eq {answer : IoAnswer} {rs ext : List IoRule}
    (h : answer = .rules rs ∨ answer = .external ∧ rs = ext) : ioRulesIn ext answer = rs := by
  obtain rfl | ⟨rfl, rfl⟩ := h <;> rfl

/-- A byte on the data lane is that byte (R67). -/
theorem loByte_setWidth (b : Byte) : loByte (b.setWidth 16) = b := by
  simp [loByte, BitVec.extractLsb'_setWidth_of_le]

theorem ioTransaction (c : Config) (l : Lines) (port value : Byte) : IoTransaction c l port value := by
  unfold IoTransaction
  split
  next h => simp [ioReadResult, ioWriteResult, h]
  next d h =>
    refine ⟨fun rs hrs => ?_, fun rs hrs => ?_⟩
    · simp only [ioReadResult, h, ioRulesIn_eq hrs]
      cases ioAnswer rs port none with
      | value8 b => simp [readOutcome, loByte_setWidth]
      | _ => rfl
    · simp only [ioWriteResult, h, ioRulesIn_eq hrs]
      cases ioAnswer rs port (some value) <;> rfl

/-- Settles O13, bus by bus. -/
theorem resolutionOrder : Obligations.ResolutionOrder :=
  ⟨firstDevice_eq_some_iff, firstIoDevice_eq_some_iff, memoryTransaction, ioTransaction⟩

/-! ## Read after write (R66, R67, R80) -/

/-- A word is its two bytes, high byte first (R66). -/
theorem joinWord_hiByte_loByte (w : Word) : joinWord (hiByte w) (loByte w) = w := by
  apply BitVec.eq_of_toNat_eq
  rw [toNat_joinWord, toNat_hiByte, toNat_loByte]
  omega

theorem addr_ne_succ (a : Addr) : a ≠ a + 1 := by
  bv_omega

theorem readCell_writeBytes_single (p : Platform) (m : Memory) (a b : Addr) (v : Byte) :
    readCell p (writeBytes p m a [v]) b = if b = a then some v else readCell p m b :=
  readCell_writeCell p m a b v

theorem readCell_writeBytes_pair (p : Platform) (m : Memory) (a b : Addr) (hi lo : Byte) :
    readCell p (writeBytes p m a [hi, lo]) b =
      if b = a + 1 then some lo else if b = a then some hi else readCell p m b := by
  simp only [writeBytes, readCell_writeCell]

/-- A write leaves every byte that it does not address (R80). -/
theorem readCell_writeBytes_of_ne {p : Platform} {m : Memory} {a b : Addr} {wide : Bool} {v : Word} (hb : b ≠ a)
    (hb' : wide = true → b ≠ a + 1) :
    readCell p (writeBytes p m a (if wide then [hiByte v, loByte v] else [loByte v])) b = readCell p m b := by
  cases wide with
  | false => exact (readCell_writeBytes_single ..).trans (if_neg hb)
  | true => exact (readCell_writeBytes_pair ..).trans (by rw [if_neg (hb' rfl), if_neg hb])

/-- Settles O14, by the width of the access. -/
theorem storedValueReadsBack : Obligations.StoredValueReadsBack := by
  intro c m l a wide v d hd hmem hstore hin
  rw [← claims_iff] at hin
  have hwrite := memWrite_of_store (m := m) (l := l) hd hin hstore v
  have hframe (b : Addr) := readCell_writeBytes_of_ne (p := c.platform) (m := m) (a := a) (b := b) (wide := wide) (v := v)
  cases wide with
  | false =>
    have hcell : readCell c.platform (writeBytes c.platform m a [loByte v]) a = some (loByte v) := by
      rw [readCell_writeBytes_single, if_pos rfl]
    exact ⟨_, hwrite, memRead_byte_of_cell hd hmem hcell, hcell, hframe⟩
  | true =>
    have hhi : readCell c.platform (writeBytes c.platform m a [hiByte v, loByte v]) a = some (hiByte v) := by
      rw [readCell_writeBytes_pair, if_neg (addr_ne_succ a), if_pos rfl]
    have hlo : readCell c.platform (writeBytes c.platform m a [hiByte v, loByte v]) (a + 1) = some (loByte v) := by
      rw [readCell_writeBytes_pair, if_pos rfl]
    have hread := memRead_word_of_cells (l := l) hd (hin rfl) hmem hhi hlo
    rw [joinWord_hiByte_loByte] at hread
    exact ⟨_, hwrite, hread, ⟨hhi, hlo⟩, hframe⟩

/-! ## The bytes that a write changes -/

/-- A byte that a write changes is one it addresses, and the device that claims the first byte stores and claims it
(R74). -/
theorem memWrite_changes {c : Config} {m m' : Memory} {l : Lines} {a b : Addr} {wide : Bool} {v : Word}
    {log : List Accepted} (h : memWrite c m l a wide v = .ok (m', log))
    (hb : readCell c.platform m' b ≠ readCell c.platform m b) :
    (b = a ∨ wide = true ∧ b = a + 1) ∧
      ∃ d, firstDevice c.platform a = some d ∧ d.onWrite = .store ∧ claims d b = true := by
  obtain ⟨rfl, -, d, hd, hstore, hin⟩ | rfl := memWrite_ok h
  · have haddr : b = a ∨ wide = true ∧ b = a + 1 := by
      by_contra hne
      obtain ⟨hfirst, hsecond⟩ := not_or.mp hne
      exact hb (readCell_writeBytes_of_ne hfirst fun hwide h => hsecond ⟨hwide, h⟩)
    refine ⟨haddr, d, hd, hstore, ?_⟩
    obtain rfl | ⟨hwide, rfl⟩ := haddr
    · exact claims_of_firstDevice hd
    · exact hin hwide
  · exact absurd rfl hb

/-- A byte that other bus owners change is one of RAM (R85). -/
theorem externalWrites_changes {p : Platform} {m : Memory} {ws : List (Addr × Byte)} {b : Addr}
    (hb : readCell p (externalWrites p m ws) b ≠ readCell p m b) :
    ∃ d, firstDevice p b = some d ∧ isRam d = true := by
  induction ws generalizing m with
  | nil => exact absurd rfl hb
  | cons w rest ih =>
    obtain ⟨a, v⟩ := w
    simp only [externalWrites] at hb
    split at hb
    next d hd =>
      split at hb
      next hram =>
        by_cases hba : b = a
        · exact ⟨d, hba ▸ hd, hram⟩
        · have hkept : readCell p (writeCell p m a v) b = readCell p m b := by rw [readCell_writeCell, if_neg hba]
          exact ih (hkept ▸ hb)
      next => exact ih hb
    next => exact ih hb

/-- A byte that the environment changes is one of RAM (R85). -/
theorem environment_changes {s : State} {b : Addr}
    (hb : readCell s.cfg.platform (environment s).mem b ≠ readCell s.cfg.platform s.mem b) :
    ∃ d, firstDevice s.cfg.platform b = some d ∧ isRam d = true := by
  unfold environment at hb
  split at hb
  next => exact absurd rfl hb
  next =>
    simp only at hb
    split at hb
    · exact externalWrites_changes hb
    · exact absurd rfl hb

/-! ## Memory over one cycle -/

theorem environment_cfg (s : State) : (environment s).cfg = s.cfg := by rw [environment_eq]

theorem resolveIo_mem (s : State) : (resolveIo s).mem = s.mem := by
  unfold resolveIo
  split
  next => split <;> split <;> rfl
  next => rfl

/-- Resolution leaves memory alone, or it is that of the requested write (R74). -/
theorem resolveMem_mem (s : State) : (resolveMem s).mem = s.mem ∨
    s.busEnable = true ∧ s.rw = true ∧
      ∃ log, memWrite s.cfg s.mem s.lines s.address s.word s.data = .ok ((resolveMem s).mem, log) := by
  unfold resolveMem
  split
  next hbus =>
    split
    next hrw =>
      split
      next m log hwrite => exact .inr ⟨hbus, hrw, log, hwrite⟩
      next => exact .inl rfl
    next => split <;> exact .inl rfl
  next => exact .inl rfl

theorem resolve_mem (s : State) : (resolve s).mem = (resolveMem s).mem := by
  unfold resolve
  simp only
  split
  · rfl
  · exact resolveIo_mem _

/-- After the environment's part a tick leaves memory alone, or memory is that of the write that the cycle requested, whose
address and width are still on the port (R61, R74). -/
theorem tick_next_mem {act : Action} (hact : Quiet act) {s t : State} (h : tick act s = .next t) :
    t.mem = (environment s).mem ∨ t.busEnable = true ∧ t.rw = true ∧
      ∃ l v log, memWrite s.cfg (environment s).mem l t.address t.word v = .ok (t.mem, log) := by
  obtain ⟨-, ht⟩ := tick_next_resolve h
  generalize hu : ({ act (begun s) with cyc := (act (begun s)).cyc + 1 } : State) = u at ht
  have hcfg : u.cfg = s.cfg := by rw [← hu, ← begun_cfg s]; exact hact.cfg _
  have hmem : u.mem = (environment s).mem := by rw [← hu]; exact hact.mem _
  have hport : t.busEnable = u.busEnable ∧ t.rw = u.rw ∧ t.address = u.address ∧ t.word = u.word := by
    rw [ht, resolve_eq]
    exact ⟨rfl, rfl, rfl, rfl⟩
  obtain ⟨hbusEnable, hrwPort, haddress, hword⟩ := hport
  rw [hbusEnable, hrwPort, haddress, hword, ← hcfg, ← hmem, ht, resolve_mem]
  obtain hkept | ⟨hbus, hrw, log, hwrite⟩ := resolveMem_mem u
  · exact .inl hkept
  · exact .inr ⟨hbus, hrw, _, _, log, hwrite⟩

/-- Settles O15: a byte that the cycle changes is one that its write addresses. -/
theorem cycleWritesOnlyItsRequest : Obligations.CycleWritesOnlyItsRequest := by
  intro s t hsole h
  have hcfg : t.cfg = s.cfg := cycle_keeps_cfg h
  obtain ⟨act, hcycle, hact, -⟩ := cycle_action s
  have hmem := tick_next_mem hact (hcycle ▸ h)
  rw [environment_mem hsole] at hmem
  refine ⟨fun _ _ b hb => ?_, fun hidle b => ?_⟩
  · by_contra hne
    simp only [readByte, hcfg] at hne
    obtain hkept | ⟨-, -, l, v, log, hwrite⟩ := hmem
    · exact hne (by rw [hkept])
    · obtain ⟨rfl | ⟨hword, rfl⟩, -⟩ := memWrite_changes hwrite hne
      · split at hb <;> simp at hb
      · simp [hword] at hb
  · obtain hkept | ⟨hbus, hrw, -⟩ := hmem
    · rw [readByte, readByte, hcfg, hkept]
    · exact absurd ⟨hbus, hrw⟩ hidle

/-! ## What every tick keeps, every step keeps -/

/-- A property of states that a tick of every quiet action keeps. -/
def KeptByTicks (P : State → Prop) : Prop := ∀ act, Quiet act → ∀ s t, P s → tick act s = .next t → P t

namespace KeptByTicks

variable {P : State → Prop} {s t : State}

theorem runCycles (hP : KeptByTicks P) {acts : List Action} (hacts : ∀ act ∈ acts, Quiet act) (hs : P s)
    (h : Machine.runCycles acts s = .next t) : P t :=
  runCycles_keeps (fun act hact => hP act (hacts act hact)) hs h

theorem cycle (hP : KeptByTicks P) (hs : P s) (h : Machine.cycle s = .next t) : P t := by
  obtain ⟨act, hcycle, hact, -⟩ := cycle_action s
  exact hP act hact s t hs (hcycle ▸ h)

theorem executeLatched (hP : KeptByTicks P) {mn : Mnemonic} {mode : Mode} (hs : P s)
    (h : Machine.executeLatched mn mode s = .next t) : P t := by
  unfold Machine.executeLatched at h
  split at h
  next i _ =>
    rw [exec_eq_schedule] at h
    exact hP.runCycles (AllPlain.quiet (plain_schedule i)) hs h
  next => exact absurd h (tick_raise_ne_next _ s t)

theorem executeFetched (hP : KeptByTicks P) (hs : P s) (h : Machine.executeFetched s = .next t) : P t := by
  unfold Machine.executeFetched at h
  split at h
  next => exact absurd h (tick_raise_ne_next _ s t)
  next mn mode _ =>
    obtain ⟨u, hoperand, hexec⟩ := andThen_eq_next.mp h
    exact hP.executeLatched (hP.runCycles (AllPlain.quiet (plain_operand mn mode)) hs hoperand) hexec

theorem runInstruction (hP : KeptByTicks P) (hs : P s) (h : Machine.runInstruction s = .next t) : P t := by
  obtain ⟨u, hfetch, hexecute⟩ := andThen_eq_next.mp h
  exact hP.executeFetched (hP.runCycles (AllPlain.quiet plain_fetch) hs hfetch) hexecute

/-- A step keeps the property, by the sequence that it runs (R468). -/
theorem step (hP : KeptByTicks P) (hs : P s) (h : Machine.step s = .next t) : P t := by
  unfold Machine.step nextSequence at h
  split at h
  next =>
    split at h
    next => exact hP.runCycles (AllPlain.quiet plain_reset) hs h
    next => exact hP.runInstruction hs h
    next => exact hP.runCycles interruptCycles_quiet hs h
    next => exact hP.cycle hs h
    next => exact hP.cycle hs h
  next => exact hP.cycle hs h

end KeptByTicks

/-! ## The canonical form of memory -/

theorem memory_wf_keptByTicks : KeptByTicks fun s => Memory.wf s.cfg.platform s.mem := by
  intro act hact s t hs h
  have henv : Memory.wf s.cfg.platform (environment s).mem := environment_cfg s ▸ environment_wf hs
  show Memory.wf t.cfg.platform t.mem
  rw [tick_keeps_cfg hact h]
  obtain hkept | ⟨-, -, l, v, log, hwrite⟩ := tick_next_mem hact h
  · rwa [hkept]
  · exact memWrite_wf henv hwrite

/-- Settles O16: the environment and the write of a cycle keep the canonical form. -/
theorem stepKeepsMemoryCanonical : Obligations.StepKeepsMemoryCanonical :=
  fun _ _ hs h => memory_wf_keptByTicks.step hs h

/-! ## ROM -/

section

variable {p : Platform} {a b : Addr} {d : MemDevice}

/-- On the reference devices only RAM stores what is written (R77). -/
theorem eq_referenceRam_of_store (hp : p.devices = [referenceRom, referenceRam]) (hd : firstDevice p a = some d)
    (hstore : d.onWrite = .store) : d = referenceRam := by
  have hmem : d ∈ p.devices := List.mem_of_find?_eq_some hd
  rw [hp] at hmem
  obtain rfl | rfl : d = referenceRom ∨ d = referenceRam := by simpa using hmem
  · cases hstore
  · rfl

/-- On the reference devices a device that stores claims no address of ROM (R77). -/
theorem not_claims_rom_of_store (hp : p.devices = [referenceRom, referenceRam]) (hd : firstDevice p a = some d)
    (hstore : d.onWrite = .store) (hb : b ≤ 0x00FFFF) : ¬claims d b = true := by
  obtain rfl := eq_referenceRam_of_store hp hd hstore
  rw [claims_iff]
  rintro ⟨hfirst, -⟩
  have hfirst : (0x010000 : Addr) ≤ b := hfirst
  bv_omega

end

/-- The devices are the reference ROM and RAM, and the bytes of ROM read as in `s`. -/
def RomAs (s u : State) : Prop :=
  u.cfg.platform.devices = [referenceRom, referenceRam] ∧ ∀ a : Addr, a ≤ 0x00FFFF → readByte u a = readByte s a

theorem environment_rom {s : State} (hs : s.cfg.platform.devices = [referenceRom, referenceRam]) {b : Addr}
    (hb : b ≤ 0x00FFFF) :
    readCell s.cfg.platform (environment s).mem b = readCell s.cfg.platform s.mem b := by
  by_contra hne
  obtain ⟨d, hd, hram⟩ := environment_changes hne
  obtain ⟨-, hstore⟩ : d.onRead = .memory ∧ d.onWrite = .store := by simpa [isRam] using hram
  exact not_claims_rom_of_store hs hd hstore hb (claims_of_firstDevice hd)

theorem memWrite_rom {c : Config} {m m' : Memory} {l : Lines} {a b : Addr} {wide : Bool} {v : Word}
    {log : List Accepted} (hc : c.platform.devices = [referenceRom, referenceRam])
    (h : memWrite c m l a wide v = .ok (m', log)) (hb : b ≤ 0x00FFFF) :
    readCell c.platform m' b = readCell c.platform m b := by
  by_contra hne
  obtain ⟨-, d, hd, hstore, hclaims⟩ := memWrite_changes h hne
  exact not_claims_rom_of_store hc hd hstore hb hclaims

theorem romAs_keptByTicks (s : State) : KeptByTicks (RomAs s) := by
  rintro act hact u t ⟨hdevices, hrom⟩ h
  have hcfg : t.cfg = u.cfg := tick_keeps_cfg hact h
  refine ⟨hcfg ▸ hdevices, fun b hb => ?_⟩
  have htick : readCell u.cfg.platform t.mem b = readCell u.cfg.platform (environment u).mem b := by
    obtain hkept | ⟨-, -, l, v, log, hwrite⟩ := tick_next_mem hact h
    · rw [hkept]
    · exact memWrite_rom hdevices hwrite hb
  calc readByte t b = readCell u.cfg.platform t.mem b := by rw [readByte, hcfg]
    _ = readCell u.cfg.platform (environment u).mem b := htick
    _ = readByte u b := environment_rom hdevices hb
    _ = readByte s b := hrom b hb

/-- Settles O17: neither other bus owners nor a write of the engine reach a byte of ROM. -/
theorem romNeverChanges : Obligations.RomNeverChanges := by
  intro s t hs h
  obtain ⟨-, hrom⟩ := (romAs_keptByTicks s).step ⟨hs, fun _ _ => rfl⟩ h
  exact hrom

end Sys2Proof.Proofs
end

section
/-! PROOFS. Encoding: the opcode table, the metadata word, the operand bytes, and decode against encode (spec 30_encoding.md R90 to R111). -/

namespace Sys2Proof.Proofs

open Sys2Proof.Machine

/-! ## The opcode table (R91, R97, R98) -/

/-- The lookup answers a pair exactly when the first row of the opcode names it and the mode is legal (R91, R101). -/
theorem entryOf_eq_ok_iff {table : List OpRow} {op : Byte} {mn : Mnemonic} {mode : Mode} :
    entryOf table op = .ok (mn, mode) ↔
      ∃ row, table.find? (fun r => r.opcode == op) = some row ∧ row.mnemonic = some mn ∧ row.mode = mode ∧
        mode ∈ mn.modes := by
  unfold entryOf
  cases table.find? (fun r => r.opcode == op) with
  | none => simp
  | some row =>
    obtain ⟨_, mnemonic, rowMode, _, _⟩ := row
    cases mnemonic with
    | none => simp
    | some mn' =>
      by_cases hlegal : rowMode ∈ mn'.modes
      · simp only [List.contains_iff_mem, hlegal, if_true]
        grind
      · simp only [List.contains_iff_mem, hlegal, if_false]
        grind

/-- What the lookup answers is a pair of R97. -/
theorem mode_legal_of_entryOf {table : List OpRow} {op : Byte} {mn : Mnemonic} {mode : Mode}
    (h : entryOf table op = .ok (mn, mode)) : mode ∈ mn.modes := by
  obtain ⟨-, -, -, -, hlegal⟩ := entryOf_eq_ok_iff.mp h
  exact hlegal

/-- With one entry for an opcode, the lookup of a row's opcode finds that row (R91). -/
theorem find_opcode_of_mem {table : List OpRow} (hdistinct : opcodesDistinct table = true) {row : OpRow}
    (hrow : row ∈ table) : table.find? (fun r => r.opcode == row.opcode) = some row := by
  have hnodup : (table.map OpRow.opcode).Nodup := by simpa [opcodesDistinct] using hdistinct
  cases hfind : table.find? (fun r => r.opcode == row.opcode) with
  | none => exact absurd (List.find?_eq_none.mp hfind row hrow) (by simp)
  | some row' =>
    have hop : row'.opcode = row.opcode := by simpa using List.find?_some hfind
    rw [List.inj_on_of_nodup_map hnodup (List.mem_of_find?_eq_some hfind) hrow hop]

/-- The opcode that the encoder takes for a legal pair is looked up as that pair (R91). -/
theorem entryOf_of_opcodeFor {table : List OpRow} (hdistinct : opcodesDistinct table = true) {op : Byte}
    {mn : Mnemonic} {mode : Mode} (hop : opcodeFor table (mn, mode) = some op) (hlegal : mode ∈ mn.modes) :
    entryOf table op = .ok (mn, mode) := by
  obtain ⟨row, hfind, rfl⟩ := Option.map_eq_some_iff.mp hop
  obtain ⟨hmn, hmode⟩ : row.mnemonic = some mn ∧ row.mode = mode := by simpa using List.find?_some hfind
  exact entryOf_eq_ok_iff.mpr
    ⟨row, find_opcode_of_mem hdistinct (List.mem_of_find?_eq_some hfind), hmn, hmode, hlegal⟩

theorem referenceTable_distinct : opcodesDistinct referenceTable = true := by decide

/-- Each row of the reference table is legal and has the opcode of R98. -/
theorem referenceTable_rows : ∀ row ∈ referenceTable, ∃ mn, row.mnemonic = some mn ∧ row.mode ∈ mn.modes ∧
    row.opcode.toNat = mn.index * 4 + row.mode.code := by
  have h : referenceTable.all (fun row => row.mnemonic.any fun mn =>
      decide (row.mode ∈ mn.modes ∧ row.opcode.toNat = mn.index * 4 + row.mode.code)) = true := by decide
  simpa [List.all_eq_true, Option.any_eq_true] using h

/-- The reference table has the opcode of R98 for every legal pair. -/
theorem opcodeFor_referenceTable (mn : Mnemonic) : ∀ mode ∈ mn.modes,
    opcodeFor referenceTable (mn, mode) = some (BitVec.ofNat 8 (mn.index * 4 + mode.code)) := by
  cases mn <;> decide

/-- The opcodes of R98 fit in a byte. -/
theorem opcode_lt (mn : Mnemonic) (mode : Mode) : mn.index * 4 + mode.code < 256 := by
  have hindex : mn.index ≤ 57 := by cases mn <;> decide
  have hcode : mode.code ≤ 3 := by cases mode <;> decide
  omega

theorem entryOf_referenceTable_iff (op : Byte) (mn : Mnemonic) (mode : Mode) :
    entryOf referenceTable op = .ok (mn, mode) ↔ mode ∈ mn.modes ∧ op.toNat = mn.index * 4 + mode.code := by
  constructor
  · intro h
    obtain ⟨row, hfind, hmn, rfl, hlegal⟩ := entryOf_eq_ok_iff.mp h
    obtain ⟨mn', hmn', -, hcode⟩ := referenceTable_rows row (List.mem_of_find?_eq_some hfind)
    obtain rfl : mn' = mn := Option.some.inj (hmn'.symm.trans hmn)
    have hop : row.opcode = op := by simpa using List.find?_some hfind
    exact ⟨hlegal, hop ▸ hcode⟩
  · rintro ⟨hlegal, hcode⟩
    have hop : op = BitVec.ofNat 8 (mn.index * 4 + mode.code) := by rw [← hcode, BitVec.ofNat_toNat, BitVec.setWidth_eq]
    exact hop ▸ entryOf_of_opcodeFor referenceTable_distinct (opcodeFor_referenceTable mn mode hlegal) hlegal

/-- A byte is assigned exactly when a row of the reference table has it. -/
theorem entryOf_referenceTable_isSome_iff (op : Byte) :
    (entryOf referenceTable op).toOption.isSome = true ↔ op ∈ referenceTable.map OpRow.opcode := by
  constructor
  · intro h
    cases hentry : entryOf referenceTable op with
    | ok e =>
      obtain ⟨row, hfind, -⟩ := entryOf_eq_ok_iff.mp hentry
      exact List.mem_map.mpr ⟨row, List.mem_of_find?_eq_some hfind, by simpa using List.find?_some hfind⟩
    | error e => simp [hentry, Except.toOption] at h
  · intro h
    obtain ⟨row, hrow, rfl⟩ := List.mem_map.mp h
    obtain ⟨mn, -, hlegal, hcode⟩ := referenceTable_rows row hrow
    simp [(entryOf_referenceTable_iff row.opcode mn row.mode).mpr ⟨hlegal, hcode⟩, Except.toOption]

/-- The assigned bytes are as many as the rows, each row having an opcode of its own (R98). -/
theorem referenceTable_assigned :
    ((List.range 256).filter fun n => (entryOf referenceTable (BitVec.ofNat 8 n)).toOption.isSome).length = 87 := by
  have hnodup : (referenceTable.map fun row => row.opcode.toNat).Nodup := by decide
  have hperm : ((List.range 256).filter fun n => (entryOf referenceTable (BitVec.ofNat 8 n)).toOption.isSome).Perm
      (referenceTable.map fun row => row.opcode.toNat) := by
    rw [List.perm_ext_iff_of_nodup (List.nodup_range.filter _) hnodup]
    intro n
    rw [List.mem_filter, List.mem_range, entryOf_referenceTable_isSome_iff, List.mem_map, List.mem_map]
    constructor
    · rintro ⟨hn, row, hrow, hop⟩
      exact ⟨row, hrow, by rw [hop, BitVec.toNat_ofNat, Nat.mod_eq_of_lt hn]⟩
    · rintro ⟨row, hrow, rfl⟩
      exact ⟨row.opcode.isLt, row, hrow, by rw [BitVec.ofNat_toNat, BitVec.setWidth_eq]⟩
  rw [hperm.length_eq]
  rfl

/-- Settles O7. -/
theorem referenceOpcodeTable : Obligations.ReferenceOpcodeTable :=
  ⟨entryOf_referenceTable_iff, referenceTable_assigned⟩

/-! ## The metadata word (R92) -/

/-- The fields at `lo` and `lo'`, of `n` and `n'` bits, have no bit in common. -/
def Apart (lo n lo' n' : Nat) : Prop := lo + n ≤ lo' ∨ lo' + n' ≤ lo

theorem Apart.symm {lo n lo' n' : Nat} (h : Apart lo n lo' n') : Apart lo' n' lo n := Or.symm h

theorem apart_of_fieldBits {lo n lo' n' : Nat} (hn : 0 < n) (hn' : 0 < n')
    (h : ∀ a ∈ fieldBits lo n, ∀ b ∈ fieldBits lo' n', a ≠ b) : Apart lo n lo' n' := by
  simp only [fieldBits, List.mem_range'_1] at h
  by_contra hover
  simp only [Apart, not_or, not_le] at hover
  exact h (max lo lo') (by omega) (max lo lo') (by omega) rfl

theorem fieldBits_inside {lo n : Nat} (hn : 0 < n) (h : ∀ b ∈ fieldBits lo n, b < 16) : lo + n ≤ 16 := by
  simp only [fieldBits, List.mem_range'_1] at h
  have := h (lo + n - 1) (by omega)
  omega

/-- What a well-formed layout says: every field is inside the word, no two fields share a bit (R92). -/
structure LayoutApart (l : MetaLayout) : Prop where
  r1_le : l.r1 + 4 ≤ 16
  r2_le : l.r2 + 4 ≤ 16
  x_le : l.x + 1 ≤ 16
  s_le : l.s + 1 ≤ 16
  disp_le : l.disp + 6 ≤ 16
  r1_r2 : Apart l.r1 4 l.r2 4
  r1_x : Apart l.r1 4 l.x 1
  r1_s : Apart l.r1 4 l.s 1
  r1_disp : Apart l.r1 4 l.disp 6
  r2_x : Apart l.r2 4 l.x 1
  r2_s : Apart l.r2 4 l.s 1
  r2_disp : Apart l.r2 4 l.disp 6
  x_s : Apart l.x 1 l.s 1
  x_disp : Apart l.x 1 l.disp 6
  s_disp : Apart l.s 1 l.disp 6

theorem layoutApart_of_wf {l : MetaLayout} (h : l.wf = true) : LayoutApart l := by
  simp only [MetaLayout.wf, Bool.and_eq_true, decide_eq_true_eq, List.append_assoc, List.nodup_append,
    List.forall_mem_append, List.all_eq_true, forall_and] at h
  obtain ⟨⟨-, ⟨-, ⟨-, ⟨-, -, hsd⟩, hxs, hxd⟩, h2x, h2s, h2d⟩, h12, h1x, h1s, h1d⟩, h1, h2, hx, hs, hd⟩ := h
  obtain ⟨p1, p4, p6⟩ : 0 < 1 ∧ 0 < 4 ∧ 0 < 6 := by decide
  exact
    ⟨fieldBits_inside p4 h1, fieldBits_inside p4 h2, fieldBits_inside p1 hx, fieldBits_inside p1 hs,
      fieldBits_inside p6 hd, apart_of_fieldBits p4 p4 h12, apart_of_fieldBits p4 p1 h1x,
      apart_of_fieldBits p4 p1 h1s, apart_of_fieldBits p4 p6 h1d, apart_of_fieldBits p4 p1 h2x,
      apart_of_fieldBits p4 p1 h2s, apart_of_fieldBits p4 p6 h2d, apart_of_fieldBits p1 p1 hxs,
      apart_of_fieldBits p1 p6 hxd, apart_of_fieldBits p1 p6 hsd⟩

/-- A field's value at its place in the metadata word (R92). -/
def placed {n : Nat} (v : BitVec n) (lo : Nat) : Word := v.setWidth 16 <<< lo

section

variable {n n' lo lo' : Nat} (v : BitVec n)

/-- A field inside the word is read back from its place. -/
theorem extractLsb'_placed (h : lo + n ≤ 16) : (placed v lo).extractLsb' lo n = v := by
  ext k hk
  have hlo : lo + k < 16 := by omega
  simp [placed, hlo, BitVec.getLsbD_eq_getElem hk]

/-- A field puts nothing into a place apart from its own. -/
theorem extractLsb'_placed_apart (h : Apart lo' n' lo n) : (placed v lo).extractLsb' lo' n' = 0#n' := by
  ext k hk
  simp only [placed, BitVec.getElem_extractLsb', BitVec.getLsbD_shiftLeft, BitVec.getLsbD_setWidth, BitVec.getElem_zero]
  obtain hbelow | habove := h
  · have : lo' + k < lo := by omega
    simp [this]
  · have : v.getLsbD (lo' + k - lo) = false := BitVec.getLsbD_of_ge v _ (by omega)
    simp [this]

end

/-- A one-bit field is its bit. -/
theorem getLsbD_eq_of_extractLsb' {mw : Word} {k : Nat} {b : Bool} (h : mw.extractLsb' k 1 = BitVec.ofBool b) :
    mw.getLsbD k = b := by
  have hbit : mw.getLsbD k = (mw.extractLsb' k 1).getLsbD 0 := by simp
  rw [hbit, h]
  cases b <;> rfl

/-- The register R2 that the metadata word of the fields carries: the index register if X = 1 (R95). -/
def writtenR2 (f : Fields) : Selector :=
  match f.offset with
  | .index r2 => r2
  | .disp _ _ => f.r2

/-- The metadata word of a displacement: X is 0 (R95). -/
theorem encodeMeta_disp (l : MetaLayout) {f : Fields} {neg : Bool} {mag : BitVec 6} (h : f.offset = .disp neg mag) :
    encodeMeta l f = placed f.r1 l.r1 ||| (placed f.r2 l.r2 ||| placed (BitVec.ofBool neg) l.s ||| placed mag l.disp) := by
  rw [encodeMeta, h]; rfl

/-- The metadata word of an index register: X is 1, S and DISP are 0 (R95). -/
theorem encodeMeta_index (l : MetaLayout) {f : Fields} {r2 : Selector} (h : f.offset = .index r2) :
    encodeMeta l f = placed f.r1 l.r1 ||| (placed r2 l.r2 ||| placed (BitVec.ofBool true) l.x) := by
  rw [encodeMeta, h]; rfl

/-- Under a layout with disjoint fields every field written is read back (R92). -/
theorem metaFields_encodeMeta {l : MetaLayout} (hl : LayoutApart l) (f : Fields) :
    metaFields l (encodeMeta l f) = { r1 := f.r1, r2 := writtenR2 f, offset := f.offset } := by
  obtain ⟨hr1, hr2, hx, hs, hd, h12, h1x, h1s, h1d, h2x, h2s, h2d, hxs, hxd, hsd⟩ := hl
  cases hoff : f.offset with
  | disp neg mag =>
    have hX : (encodeMeta l f).getLsbD l.x = false := getLsbD_eq_of_extractLsb' (by
      simp [encodeMeta_disp l hoff, BitVec.extractLsb'_or, extractLsb'_placed_apart, *, Apart.symm])
    have hS : (encodeMeta l f).getLsbD l.s = neg := getLsbD_eq_of_extractLsb' (by
      simp [encodeMeta_disp l hoff, BitVec.extractLsb'_or, extractLsb'_placed, extractLsb'_placed_apart, *, Apart.symm])
    rw [metaFields, metaOffset, hX, hS]
    simp [metaSelector, writtenR2, encodeMeta_disp l hoff, BitVec.extractLsb'_or, extractLsb'_placed,
      extractLsb'_placed_apart, *, Apart.symm]
  | index r2 =>
    have hX : (encodeMeta l f).getLsbD l.x = true := getLsbD_eq_of_extractLsb' (by
      simp [encodeMeta_index l hoff, BitVec.extractLsb'_or, extractLsb'_placed, extractLsb'_placed_apart, *, Apart.symm])
    rw [metaFields, metaOffset, hX]
    simp [metaSelector, writtenR2, encodeMeta_index l hoff, BitVec.extractLsb'_or, extractLsb'_placed,
      extractLsb'_placed_apart, *, Apart.symm]

/-! ## The operand bytes (R90, R94, R95) -/

/-- The operand bytes of `f` that an instruction with `n` of them carries, every other field 0 (R90). -/
def operandPart (f : Fields) : Nat → Fields
  | 1 => { imm8 := f.imm8 }
  | 2 => { imm16 := f.imm16 }
  | 3 => { bank := f.bank, seg := f.seg }
  | _ => {}

/-- The metadata fields of `f` with the operand bytes of `o`. -/
def withOperand (f o : Fields) : Fields := { f with imm8 := o.imm8, imm16 := o.imm16, bank := o.bank, seg := o.seg }

theorem operandSize_cases (mn : Mnemonic) (mode : Mode) :
    operandSize mn mode = 0 ∨ operandSize mn mode = 1 ∨ operandSize mn mode = 2 ∨ operandSize mn mode = 3 := by
  cases mode with
  | implied => exact .inl rfl
  | register => exact .inl rfl
  | immediate => cases h : mn.isByte <;> simp [operandSize, h]
  | absolute => exact .inr (.inr (.inr rfl))

/-- The operand bytes read do not depend on the metadata word. -/
theorem takeOperand_metaFields (l : MetaLayout) (mw : Word) (n : Nat) (bs : List Byte) :
    takeOperand (metaFields l mw) n bs = (takeOperand {} n bs).map fun p => (withOperand (metaFields l mw) p.1, p.2) := by
  unfold takeOperand
  split <;> rfl

/-- The operand bytes written are read back, and the bytes after them are left (R90). -/
theorem takeOperand_operandBytesOf (f : Fields) (mn : Mnemonic) (mode : Mode) (rest : List Byte) :
    takeOperand {} (operandSize mn mode) (operandBytesOf f (operandSize mn mode) ++ rest) =
      some (operandPart f (operandSize mn mode), rest) := by
  obtain h | h | h | h := operandSize_cases mn mode <;> rw [h]
  · rfl
  · rfl
  · simp [takeOperand, operandBytesOf, operandPart, joinWord_hiByte_loByte]
  · simp [takeOperand, operandBytesOf, operandPart, joinWord_hiByte_loByte]

/-- The decoder takes as many operand bytes as the mode has, from the front. -/
theorem takeOperand_takes {f g : Fields} {n : Nat} {bs rest : List Byte} (h : takeOperand f n bs = some (g, rest)) :
    ∃ used, bs = used ++ rest ∧ used.length = n := by
  unfold takeOperand at h
  split at h
  next => exact ⟨[], by simp_all⟩
  next b _ => exact ⟨[b], by simp_all⟩
  next hi lo _ => exact ⟨[hi, lo], by simp_all⟩
  next bank hi lo _ => exact ⟨[bank, hi, lo], by simp_all⟩
  next => cases h

/-- Enough bytes always give the operand (R94, R95). -/
theorem takeOperand_of_length (f : Fields) {mn : Mnemonic} {mode : Mode} {bs : List Byte}
    (h : operandSize mn mode ≤ bs.length) : ∃ p, takeOperand f (operandSize mn mode) bs = some p := by
  obtain hn | hn | hn | hn := operandSize_cases mn mode <;> rw [hn] at h ⊢
  · exact ⟨_, rfl⟩
  · match bs, h with
    | _ :: _, _ => exact ⟨_, rfl⟩
  · match bs, h with
    | _ :: _ :: _, _ => exact ⟨_, rfl⟩
  · match bs, h with
    | _ :: _ :: _ :: _, _ => exact ⟨_, rfl⟩

/-! ## The instruction of a pair and the fields (R97) -/

/-- An instruction is built from its own fields, whatever stands in the fields that it does not use: the register R2 of an
indexed operand, and the operand bytes of another mode. -/
theorem buildInstr_fields (i : Instr) :
    buildInstr (withOperand { r1 := i.fields.r1, r2 := writtenR2 i.fields, offset := i.fields.offset }
      (operandPart i.fields (operandSize i.entry.1 i.entry.2))) i.entry.1 i.entry.2 = some i := by
  cases i <;> rfl

/-- What is built has the mnemonic and the mode asked for. -/
theorem entry_of_buildInstr {f : Fields} {mn : Mnemonic} {mode : Mode} {i : Instr} (h : buildInstr f mn mode = some i) :
    i.entry = (mn, mode) := by
  revert h
  cases mn <;> cases mode <;> intro h <;> cases h <;> rfl

/-- The pairs that have an instruction are those of R97. -/
theorem buildInstr_isSome (f : Fields) (mn : Mnemonic) (mode : Mode) :
    (buildInstr f mn mode).isSome = mn.modes.contains mode := by
  cases mn <;> cases mode <;> rfl

theorem buildInstr_of_legal (f : Fields) {mn : Mnemonic} {mode : Mode} (h : mode ∈ mn.modes) :
    ∃ i, buildInstr f mn mode = some i := by
  rw [← Option.isSome_iff_exists, buildInstr_isSome]
  simpa using h

theorem mode_legal_of_buildInstr {f : Fields} {mn : Mnemonic} {mode : Mode} {i : Instr}
    (h : buildInstr f mn mode = some i) : mode ∈ mn.modes := by
  simpa [h] using (buildInstr_isSome f mn mode).symm

/-! ## Decode against encode (R90, R103) -/

/-- What decodes: an opcode of the table, the metadata word, the operand bytes, and the instruction built from them. -/
theorem decode_eq_ok_iff {cfg : Config} {bs rest : List Byte} {i : Instr} :
    decode cfg bs = .ok (i, rest) ↔
      ∃ op m1 m0 tail mn mode f, bs = op :: m1 :: m0 :: tail ∧ entryOf cfg.opcodeTable op = .ok (mn, mode) ∧
        takeOperand (metaFields cfg.metaLayout (joinWord m1 m0)) (operandSize mn mode) tail = some (f, rest) ∧
        buildInstr f mn mode = some i := by
  constructor
  · intro h
    unfold decode at h
    split at h
    next op m1 m0 tail =>
      split at h
      next => cases h
      next mn mode hentry =>
        split at h
        next => cases h
        next f rest' htake =>
          split at h
          next => cases h
          next i' hbuild =>
            cases h
            exact ⟨op, m1, m0, tail, mn, mode, f, rfl, hentry, htake, hbuild⟩
    next => cases h
  · rintro ⟨op, m1, m0, tail, mn, mode, f, rfl, hentry, htake, hbuild⟩
    simp only [decode, hentry, htake, hbuild]

/-- What an instruction encodes to: the opcode of its pair, its metadata word, its operand bytes (R90). -/
theorem encode_eq_some_iff {cfg : Config} {i : Instr} {bs : List Byte} :
    encode cfg i = some bs ↔ ∃ op, opcodeFor cfg.opcodeTable i.entry = some op ∧
      bs = op :: hiByte (encodeMeta cfg.metaLayout i.fields) :: loByte (encodeMeta cfg.metaLayout i.fields) ::
        operandBytesOf i.fields (operandSize i.entry.1 i.entry.2) := by
  rw [encode]
  cases opcodeFor cfg.opcodeTable i.entry with
  | none => simp
  | some op => simp [eq_comm]

/-- Settles O8: the opcode is looked up as the instruction's pair, the metadata fields and the operand bytes are read back,
and the instruction is built from the fields it uses. -/
theorem decodeOfEncode : Obligations.DecodeOfEncode := by
  intro cfg i bs rest hlayout hdistinct hencode
  obtain ⟨op, hop, rfl⟩ := encode_eq_some_iff.mp hencode
  have hentry : entryOf cfg.opcodeTable op = .ok (i.entry.1, i.entry.2) :=
    entryOf_of_opcodeFor hdistinct hop (mode_legal_of_buildInstr (buildInstr_fields i))
  refine decode_eq_ok_iff.mpr ⟨op, _, _, _, i.entry.1, i.entry.2, _, rfl, hentry, ?_, buildInstr_fields i⟩
  rw [takeOperand_metaFields, List.append_eq, takeOperand_operandBytesOf, joinWord_hiByte_loByte,
    metaFields_encodeMeta (layoutApart_of_wf hlayout), Option.map_some]

/-- Settles O12: the header and the operand bytes are what is consumed. -/
theorem decodeTakesTheLength : Obligations.DecodeTakesTheLength := by
  intro cfg bs
  constructor
  · intro i rest h
    obtain ⟨op, m1, m0, tail, mn, mode, f, rfl, hentry, htake, hbuild⟩ := decode_eq_ok_iff.mp h
    obtain ⟨used, rfl, hused⟩ := takeOperand_takes htake
    have hi : i.entry = (mn, mode) := entry_of_buildInstr hbuild
    refine ⟨op, m1 :: m0 :: used, rfl, ?_, hi ▸ hentry⟩
    rw [Instr.length, hi, instrLength, ← hused, List.length_cons, List.length_cons]
    omega
  · rintro op tail mn mode rfl hentry hlen
    simp only [instrLength, List.length_cons] at hlen
    obtain ⟨m1, m0, operand, rfl⟩ : ∃ m1 m0 operand, tail = m1 :: m0 :: operand := by
      match tail with
      | m1 :: m0 :: operand => exact ⟨m1, m0, operand, rfl⟩
      | [] | [_] => simp at hlen; omega
    have hoperand : operandSize mn mode ≤ operand.length := by
      simp only [List.length_cons] at hlen
      omega
    obtain ⟨⟨f, rest⟩, htake⟩ := takeOperand_of_length (metaFields cfg.metaLayout (joinWord m1 m0)) hoperand
    obtain ⟨i, hbuild⟩ := buildInstr_of_legal f (mode_legal_of_entryOf hentry)
    exact ⟨i, rest, decode_eq_ok_iff.mpr ⟨op, m1, m0, operand, mn, mode, f, rfl, hentry, htake, hbuild⟩,
      entry_of_buildInstr hbuild⟩

/-- The literal of Immediate mode is w/8 bytes long (R102). -/
theorem instrLength_immediate (mn : Mnemonic) : instrLength mn .immediate = 3 + mn.width / 8 := by
  cases h : mn.isByte <;> simp [instrLength, operandSize, Mnemonic.width, h]

/-- Settles O9: the table has the opcode of every pair of R97, the length is that of every encoding. -/
theorem everyInstructionEncodes : Obligations.EveryInstructionEncodes := by
  intro i
  have hop : opcodeFor Config.reference.opcodeTable i.entry = some (BitVec.ofNat 8 (i.entry.1.index * 4 + i.entry.2.code)) :=
    opcodeFor_referenceTable _ _ (mode_legal_of_buildInstr (buildInstr_fields i))
  have hencode := encode_eq_some_iff.mpr ⟨_, hop, rfl⟩
  refine ⟨_, _, hencode, ?_, ?_⟩
  · rw [BitVec.toNat_ofNat, Nat.mod_eq_of_lt (opcode_lt ..)]
  · have hlength := Laws.encodedLength_all i _ _ hencode
    rw [List.length_cons, Instr.length] at hlength
    rw [hlength]
    cases i.entry.2 with
    | immediate => exact instrLength_immediate _
    | _ => rfl

/-- Settles O10: the encodings by evaluation, the decodings by O8. -/
theorem exampleEncodings : Obligations.ExampleEncodings := by
  intro p hp
  have hencode : encode Config.reference p.1 = some p.2 := by
    revert p
    decide
  refine ⟨hencode, ?_⟩
  simpa using decodeOfEncode Config.reference p.1 p.2 [] (by decide) referenceTable_distinct hencode

/-! ## Unused metadata fields (R93, R105) -/

/-- The jumps and the branches name no register (R93). -/
def isJump : Mnemonic → Bool
  | .jmp | .jsr | .beq | .bne | .bcs | .bcc | .bmi | .bpl | .bvs | .bvc | .blt | .bgt => true
  | _ => false

/-- The mnemonics that have the Register mode alone take one register (R93, R97). -/
def takesOneRegister (mn : Mnemonic) : Bool := decide (mn.modes = [.register])

/-! The fields that the instruction of a pair uses, by the mode (R93). -/

section

variable (f : Fields) (mn : Mnemonic)

theorem buildInstr_implied : buildInstr f mn .implied = buildInstr {} mn .implied := by
  cases mn <;> rfl

theorem buildInstr_immediate :
    buildInstr f mn .immediate = buildInstr { r1 := f.r1, imm8 := f.imm8, imm16 := f.imm16 } mn .immediate := by
  cases mn <;> rfl

theorem buildInstr_register : buildInstr f mn .register = buildInstr { r1 := f.r1, r2 := f.r2 } mn .register := by
  cases mn <;> rfl

theorem buildInstr_oneRegister (h : takesOneRegister mn = true) :
    buildInstr f mn .register = buildInstr { r1 := f.r1 } mn .register := by
  cases mn with
  | inc | incb | dec | decb | not | notb | shl | shlb | shr | shrb | rol | rolb | ror | rorb | push | pushb | pop
  | popb => rfl
  | _ => exact absurd h (by decide)

theorem buildInstr_absolute : buildInstr f mn .absolute =
    buildInstr { r1 := f.r1, offset := f.offset, bank := f.bank, seg := f.seg } mn .absolute := by
  cases mn <;> rfl

theorem buildInstr_jump (h : isJump mn = true) : buildInstr f mn .absolute =
    buildInstr { offset := f.offset, bank := f.bank, seg := f.seg } mn .absolute := by
  cases mn with
  | jmp | jsr | beq | bne | bcs | bcc | bmi | bpl | bvs | bvc | blt | bgt => rfl
  | _ => exact absurd h (by decide)

/-- What agreement in the used fields says of a Register operand (R93). -/
theorem sameUsedFields_register (m m' : Word) :
    sameUsedFields mn .register m m' =
      if takesOneRegister mn then m.extractLsb' 12 4 == m'.extractLsb' 12 4
      else m.extractLsb' 12 4 == m'.extractLsb' 12 4 && m.extractLsb' 8 4 == m'.extractLsb' 8 4 := by
  cases mn <;> rfl

/-- What agreement in the used fields says of an Absolute operand (R93, R95). -/
theorem sameUsedFields_absolute (m m' : Word) :
    sameUsedFields mn .absolute m m' =
      ((isJump mn || m.extractLsb' 12 4 == m'.extractLsb' 12 4) && m.getLsbD 7 == m'.getLsbD 7 &&
        if m.getLsbD 7 then m.extractLsb' 8 4 == m'.extractLsb' 8 4 else m.extractLsb' 0 7 == m'.extractLsb' 0 7) := by
  cases mn <;> rfl

end

/-- The seven bits below X are S and DISP (R92). -/
theorem disp_of_low_bits {m m' : Word} (h : m.extractLsb' 0 7 = m'.extractLsb' 0 7) :
    m.getLsbD 6 = m'.getLsbD 6 ∧ m.extractLsb' 0 6 = m'.extractLsb' 0 6 := by
  have bit (k : Nat) (hk : k < 7) : m.getLsbD k = m'.getLsbD k := by
    simpa [hk] using congrArg (fun v => v.getLsbD k) h
  refine ⟨bit 6 (by decide), ?_⟩
  ext k hk
  simpa using bit k (by omega)

/-- The offset of an Absolute operand uses X, and R2 or S and DISP by its value (R95). -/
theorem metaOffset_congr {m m' : Word} (hx : m.getLsbD 7 = m'.getLsbD 7)
    (h : (if m.getLsbD 7 then m.extractLsb' 8 4 == m'.extractLsb' 8 4
      else m.extractLsb' 0 7 == m'.extractLsb' 0 7) = true) :
    metaOffset Config.reference.metaLayout m = metaOffset Config.reference.metaLayout m' := by
  show (if m.getLsbD 7 then Offset.index (m.extractLsb' 8 4) else .disp (m.getLsbD 6) (m.extractLsb' 0 6)) =
    if m'.getLsbD 7 then Offset.index (m'.extractLsb' 8 4) else .disp (m'.getLsbD 6) (m'.extractLsb' 0 6)
  rw [← hx]
  split at h
  next hX => rw [if_pos hX, if_pos hX, beq_iff_eq.mp h]
  next hX =>
    obtain ⟨hs, hdisp⟩ := disp_of_low_bits (beq_iff_eq.mp h)
    rw [if_neg hX, if_neg hX, hs, hdisp]

/-- Metadata words that agree in the used fields build the same instruction (R93). -/
theorem buildInstr_of_sameUsedFields {mn : Mnemonic} {mode : Mode} {m m' : Word}
    (h : sameUsedFields mn mode m m' = true) (o : Fields) :
    buildInstr (withOperand (metaFields Config.reference.metaLayout m) o) mn mode =
      buildInstr (withOperand (metaFields Config.reference.metaLayout m') o) mn mode := by
  have r1_eq (hr1 : (m.extractLsb' 12 4 == m'.extractLsb' 12 4) = true) :
      (metaFields Config.reference.metaLayout m).r1 = (metaFields Config.reference.metaLayout m').r1 := beq_iff_eq.mp hr1
  have r2_eq (hr2 : (m.extractLsb' 8 4 == m'.extractLsb' 8 4) = true) :
      (metaFields Config.reference.metaLayout m).r2 = (metaFields Config.reference.metaLayout m').r2 := beq_iff_eq.mp hr2
  cases mode with
  | implied => rw [buildInstr_implied, ← buildInstr_implied]
  | immediate =>
    rw [buildInstr_immediate (withOperand _ o), buildInstr_immediate (withOperand _ o)]
    simp only [withOperand, r1_eq h]
  | register =>
    rw [sameUsedFields_register] at h
    split at h
    next hone =>
      rw [buildInstr_oneRegister (withOperand _ o) mn hone, buildInstr_oneRegister (withOperand _ o) mn hone]
      simp only [withOperand, r1_eq h]
    next =>
      obtain ⟨hr1, hr2⟩ := Bool.and_eq_true_iff.mp h
      rw [buildInstr_register (withOperand _ o), buildInstr_register (withOperand _ o)]
      simp only [withOperand, r1_eq hr1, r2_eq hr2]
  | absolute =>
    rw [sameUsedFields_absolute, Bool.and_eq_true, Bool.and_eq_true, Bool.or_eq_true, beq_iff_eq (a := m.getLsbD 7)] at h
    obtain ⟨⟨hr1, hx⟩, hoffset⟩ := h
    have offset_eq : (metaFields Config.reference.metaLayout m).offset =
        (metaFields Config.reference.metaLayout m').offset := metaOffset_congr hx hoffset
    obtain hjump | hr1 := hr1
    · rw [buildInstr_jump (withOperand _ o) mn hjump, buildInstr_jump (withOperand _ o) mn hjump]
      simp only [withOperand, offset_eq]
    · rw [buildInstr_absolute (withOperand _ o), buildInstr_absolute (withOperand _ o)]
      simp only [withOperand, r1_eq hr1, offset_eq]

/-- Settles O11: the operand bytes do not depend on the metadata word, what is built from both only on the used fields. -/
theorem unusedFieldsIgnored : Obligations.UnusedFieldsIgnored := by
  intro op mn mode m m' rest hentry hsame
  have hentry : entryOf Config.reference.opcodeTable op = .ok (mn, mode) := hentry
  simp only [decode, hentry, joinWord_hiByte_loByte, takeOperand_metaFields]
  cases takeOperand {} (operandSize mn mode) rest with
  | none => rfl
  | some p => simp only [Option.map_some, buildInstr_of_sameUsedFields hsame]

end Sys2Proof.Proofs
end

section
/-! PROOFS. The effective address of an Absolute operand (spec 30_encoding.md R95), the fetch of a header (40_engine.md R124) and the stop at an unknown opcode (R125, 60_exceptions.md R432). -/

namespace Sys2Proof.Proofs

open Sys2Proof.Machine Sys2Proof.Laws

/-! ## The effective address -/

/-- A word as a signed number (R134). -/
theorem toInt_word (w : Word) : w.toInt = if w.toNat < 32768 then (w.toNat : Int) else w.toNat - 65536 := by
  rw [BitVec.toInt_eq_toNat_cond]
  split <;> split <;> omega

/-- A byte as a signed number (R134). -/
theorem toInt_byte (b : Byte) : b.toInt = if b.toNat < 128 then (b.toNat : Int) else b.toNat - 256 := by
  rw [BitVec.toInt_eq_toNat_cond]
  split <;> split <;> omega

/-- The effective address as a number (R95). -/
theorem toNat_effectiveAddr (s : State) (m : AbsOperand) :
    ((effectiveAddr s m).toNat : Int) = (m.bank.toNat * 65536 + m.seg.toNat + offsetValue s m.offset) % 2 ^ 24 := by
  rw [effectiveAddr, toNat_offsetAddr, toNat_joinAddr]
  push_cast
  ring_nf

/-- A half reads as its byte (R23). -/
theorem toNat_readSel_half {s : State} {sel : Selector} {r : RegName} {high : Bool}
    (h : decodeSelector s.cfg.halfSel sel = .half r high) : (readSel s sel).toNat = (halfOf high (s.regs.get r)).toNat := by
  rw [readSel, h, readTarget, BitVec.toNat_setWidth]
  exact Nat.mod_eq_of_lt (by omega)

/-- Settles O6, by the two kinds of offset and the two kinds of index register. -/
theorem effectiveAddressValue : Obligations.EffectiveAddressValue := by
  intro s m
  refine ⟨offsetValue s m.offset, toNat_effectiveAddr s m, ?_⟩
  cases m.offset with
  | disp neg mag =>
    have := mag.isLt
    cases neg <;> simp [offsetValue] <;> omega
  | index r2 =>
    simp only [offsetValue, indexValue]
    cases hsel : decodeSelector s.cfg.halfSel r2 with
    | full r => exact toInt_word _
    | half r high =>
      simp only [toNat_readSel_half hsel]
      exact toInt_byte _

/-! ## The fetch of a header -/

/-- What the three cycles of a fetch leave: the header in the instruction register, pc past it, state Execute at cycle 1,
everything else as before (R124). -/
structure FetchLeaves (s : State) (op : Byte) (m : Word) (t : State) : Prop where
  fault : t.fault = none
  phase : t.phase = .execute
  cyc : t.cyc = 1
  pc : t.pc = s.pc + 3
  irOp : t.irOp = op
  irMeta : t.irMeta = m
  cfg : t.cfg = s.cfg
  regs : t.regs = s.regs
  flags : t.flags = s.flags
  sp : t.sp = s.sp
  scr : t.scr = s.scr
  mem : t.mem = s.mem
  accepted : t.accepted = s.accepted
  istat : s.istat ≠ .none → t.istat = s.istat
  ioPorts : KeepsIoPorts s t

/-- The state after Fetch cycle 1: the opcode byte is on the data lane (R124). -/
def opcodeRead (s : State) (op : Byte) : State :=
  { busRead s.pc false (begun s) with cyc := s.cyc + 1, data := op.setWidth 16 }

/-- The state after Fetch cycle 2: the opcode is latched, the metadata word is on the data lane (R124). -/
def metaRead (s : State) (m : Word) : State :=
  { busRead (s.pc + 1) true { begun s with irOp := loByte s.data, pc := s.pc + 1 } with cyc := s.cyc + 1, data := m }

/-- The state after Fetch cycle 3: the metadata word is latched, Execute begins (R124). -/
def headerLatched (s : State) : State :=
  { begun s with irMeta := s.data, pc := s.pc + 2, phase := .execute, cyc := 1 }

section

variable {s : State} {op : Byte} {m : Word}

theorem begun_reads (hsole : SoleWriter s) {a : Addr} {wide : Bool} {v : Word} (h : Reads s a wide v) (l : Lines) :
    memRead s.cfg (begun s).mem l a wide = .ok v := by
  rw [begun_mem hsole]
  exact h l

theorem tick_opcodeRead (hs : s.fault = none) (hsole : SoleWriter s) (hop : Reads s s.pc false (op.setWidth 16)) :
    tick (fun s => busRead s.pc false s) s = .next (opcodeRead s op) := by
  have h := tick_read (act := fun s => busRead s.pc false s) (u := busRead s.pc false (begun s)) hs (by simp)
    (by simpa using hs) rfl rfl rfl (by simpa using begun_reads hsole hop _)
  simpa [opcodeRead] using h

theorem tick_metaRead (hs : s.fault = none) (hsole : SoleWriter s) (hmeta : Reads s (s.pc + 1) true m) :
    tick (fun s => busRead (s.pc + 1) true { s with irOp := loByte s.data, pc := s.pc + 1 }) s =
      .next (metaRead s m) := by
  have h := tick_read (act := fun s => busRead (s.pc + 1) true { s with irOp := loByte s.data, pc := s.pc + 1 })
    (u := busRead (s.pc + 1) true { begun s with irOp := loByte s.data, pc := s.pc + 1 }) hs (by simp)
    (by simpa using hs) rfl rfl rfl (by simpa using begun_reads hsole hmeta _)
  simpa [metaRead] using h

theorem tick_headerLatched (hs : s.fault = none) :
    tick (fun s => { s with irMeta := s.data, pc := s.pc + 2, phase := .execute, cyc := 0 }) s =
      .next (headerLatched s) :=
  tick_idle (u := { begun s with irMeta := s.data, pc := s.pc + 2, phase := .execute, cyc := 0 }) hs (by simp)
    (by simpa using hs) rfl rfl

/-- The three cycles of a fetch whose two reads are answered (R124). -/
theorem runCycles_fetchCycles (hs : s.fault = none) (hsole : SoleWriter s) (hop : Reads s s.pc false (op.setWidth 16))
    (hmeta : Reads s (s.pc + 1) true m) :
    runCycles fetchCycles s = .next (headerLatched (metaRead (opcodeRead s op) m)) := by
  have hsole1 : SoleWriter (opcodeRead s op) := by simpa [opcodeRead] using hsole
  have hmeta1 : Reads (opcodeRead s op) ((opcodeRead s op).pc + 1) true m := by
    intro l
    simpa [opcodeRead] using begun_reads hsole hmeta l
  have h2 := tick_metaRead (by simpa [opcodeRead] using hs) hsole1 hmeta1
  have h3 := tick_headerLatched (s := metaRead (opcodeRead s op) m) (by simpa [opcodeRead, metaRead] using hs)
  show andThen (tick _ s) _ = _
  rw [tick_opcodeRead hs hsole hop, andThen_next]
  show andThen (tick _ _) _ = _
  rw [h2, andThen_next]
  show andThen (tick _ _) _ = _
  rw [h3, andThen_next, runCycles_nil]

/-- A fetch leaves the header in the instruction register and pc past it; nothing else of the engine changes (R124). -/
theorem fetchLeaves (hs : s.fault = none) (hsole : SoleWriter s) :
    FetchLeaves s op m (headerLatched (metaRead (opcodeRead s op) m)) where
  fault := by simpa [headerLatched, metaRead, opcodeRead] using hs
  phase := rfl
  cyc := rfl
  pc := by simp [headerLatched, metaRead, opcodeRead, BitVec.add_assoc]
  irOp := by simp [headerLatched, metaRead, opcodeRead, loByte_setWidth]
  irMeta := by simp [headerLatched, metaRead]
  cfg := by simp [headerLatched, metaRead, opcodeRead]
  regs := by simp [headerLatched, metaRead, opcodeRead]
  flags := by simp [headerLatched, metaRead, opcodeRead]
  sp := by simp [headerLatched, metaRead, opcodeRead]
  scr := by simp [headerLatched, metaRead, opcodeRead]
  mem := by simp [headerLatched, metaRead, opcodeRead, begun_mem, hsole]
  accepted := by simp [headerLatched, metaRead, opcodeRead]
  istat h := by simp [headerLatched, metaRead, opcodeRead, begun_istat_of_ne, h]
  ioPorts := by simp [headerLatched, metaRead, opcodeRead, KeepsIoPorts]

/-- The fetch of an instruction whose header can be read (R124). -/
theorem runCycles_fetch (hs : s.fault = none) (hsole : SoleWriter s) (hop : Reads s s.pc false (op.setWidth 16))
    (hmeta : Reads s (s.pc + 1) true m) : ∃ t, runCycles fetchCycles s = .next t ∧ FetchLeaves s op m t :=
  ⟨_, runCycles_fetchCycles hs hsole hop hmeta, fetchLeaves hs hsole⟩

end

theorem step_fetch {s : State} (hs : AtFetch s) : step s = runInstruction s := by
  obtain ⟨-, hphase, hcyc⟩ := hs
  simp [step, nextSequence, hphase, hcyc]

/-- The dispatch of an opcode that does not decode: a cycle that raises the fault (R125, R432). -/
theorem executeFetched_error {t : State} {e : DecodeError} (ht : t.fault = none)
    (h : entryOf t.cfg.opcodeTable t.irOp = .error e) :
    executeFetched t = .fault (faultOf (dispatchFault e (begun t)) (raise (dispatchFault e (begun t)) (begun t))) := by
  rw [executeFetched, h]
  exact tick_raise ht rfl rfl

/-- What the raising cycle leaves after the fetch of a header: everything the fetch left, no request (R432, R433). -/
theorem faultKeeps_of_fetchLeaves {s t : State} {op : Byte} {m : Word} (ht : FetchLeaves s op m t) (hsole : SoleWriter s)
    (f : FaultReg) : FaultKeeps { s with pc := s.pc + 3, irOp := op, irMeta := m } (raise f (begun t)) := by
  have hsole' : SoleWriter t := by rw [SoleWriter, ht.cfg]; exact hsole
  have hcell (a : Addr) : readByte (raise f (begun t)) a = readByte s a := by
    rw [readByte, readByte, raise_cfg, raise_mem, begun_cfg, begun_mem hsole', ht.cfg, ht.mem]
  have histat (h : s.istat ≠ .none) : (begun t).istat = s.istat := by
    rw [begun_istat_of_ne (by rwa [ht.istat h]), ht.istat h]
  refine ⟨⟨?_, ?_, ?_, hcell, ?_, ?_, ?_, ?_, histat⟩, ?_⟩
  · simp [ht.regs]
  · simp [ht.flags]
  · simp [ht.pc]
  · simp [ht.accepted]
  · simp [ht.cfg]
  · simp [ht.irOp]
  · simp [ht.irMeta]
  · simp [ht.phase]

/-- Settles O20: the fetch of the header, then the cycle that raises the fault. -/
theorem unknownOpcodeFaults : Obligations.UnknownOpcodeFaults := by
  intro s op m hat hsole hop hmeta hentry
  obtain ⟨t, hfetch, ht⟩ := runCycles_fetch hat.1 hsole hop hmeta
  have hlookup : entryOf t.cfg.opcodeTable t.irOp = .error (.unknownOpcode op) := by rw [ht.cfg, ht.irOp, hentry]
  have hfault : dispatchFault (.unknownOpcode op) (begun t) = .configUnknownOpcode op s.pc := by
    rw [dispatchFault, begun_pc, ht.pc, BitVec.add_sub_cancel]
  refine ⟨raise (.configUnknownOpcode op s.pc) (begun t), ?_, rfl, faultKeeps_of_fetchLeaves ht hsole _, ?_, ?_, ?_, rfl, rfl⟩
  · rw [step_fetch hat, runInstruction, hfetch, andThen_next, executeFetched_error ht.fault hlookup, hfault]
  · simp [ht.sp]
  · simp [ht.scr]
  · simp [ht.cyc]

end Sys2Proof.Proofs
end

section
/-! PROOFS. The engine's sequences, cycle by cycle: a recorded fault, the cycles that continue a sequence and those that end it, the schedule of an instruction, a step as its cycles (spec 40_engine.md R120 to R149, 60_exceptions.md R433). -/

namespace Sys2Proof.Proofs

open Sys2Proof.Machine Sys2Proof.Laws

/-! ## A recorded fault (R433) -/

theorem faultOf_final (f : FaultReg) (s : State) : (faultOf f s).final = s := by
  cases f <;> rfl

section

variable {s : State} {f : FaultReg}

theorem cycle_faulted (h : s.fault = some f) : cycle s = .fault (faultOf f s) := by
  obtain ⟨act, hcycle, -⟩ := cycle_action s
  rw [hcycle, tick_faulted h]

theorem runCycles_faulted (h : s.fault = some f) (act : Action) (rest : List Action) :
    runCycles (act :: rest) s = .fault (faultOf f s) := by
  rw [runCycles_cons, tick_faulted h, andThen_fault]

theorem runInstruction_faulted (h : s.fault = some f) : runInstruction s = .fault (faultOf f s) := by
  rw [runInstruction, fetchCycles, runCycles_faulted h, andThen_fault]

theorem step_faulted (h : s.fault = some f) : step s = .fault (faultOf f s) := by
  unfold step nextSequence
  split
  next =>
    split
    next => exact runCycles_faulted h _ _
    next => exact runInstruction_faulted h
    next => exact runCycles_faulted h _ _
    next => exact cycle_faulted h
    next => exact cycle_faulted h
  next => exact cycle_faulted h

end

/-- Settles O38. -/
theorem recordedFaultStops : Obligations.RecordedFaultStops :=
  fun s f h => ⟨step_faulted h, cycle_faulted h, faultOf_final f s⟩

/-! ## Cycles that continue a sequence, cycles that end one -/

/-- The action leaves the engine in its sequence and raises no fault. -/
structure Continues (act : Action) : Prop where
  phase : ∀ u, (act u).phase = u.phase
  cyc : ∀ u, (act u).cyc = u.cyc
  fault : ∀ u, (act u).fault = u.fault

/-- The action leads to cycle 1 of a next sequence and raises no fault (R126). -/
structure Ends (act : Action) : Prop where
  cyc : ∀ u, (act u).cyc = 0
  fault : ∀ u, (act u).fault = u.fault

/-- The action leaves the instruction register alone (R34). -/
structure KeepsHeader (act : Action) : Prop where
  irOp : ∀ u, (act u).irOp = u.irOp
  irMeta : ∀ u, (act u).irMeta = u.irMeta

/-- Cycles that continue their sequence, then one that ends it (R120). -/
inductive Sequence : List Action → Prop
  | last {act : Action} : Ends act → Sequence [act]
  | cons {act : Action} {rest : List Action} : Continues act → Sequence rest → Sequence (act :: rest)

theorem Sequence.append {before rest : List Action} (hbefore : ∀ act ∈ before, Continues act) (hrest : Sequence rest) :
    Sequence (before ++ rest) := by
  induction before with
  | nil => exact hrest
  | cons act before ih =>
    rw [List.forall_mem_cons] at hbefore
    exact .cons hbefore.1 (ih hbefore.2)

theorem Sequence.length_pos {acts : List Action} (h : Sequence acts) : 0 < acts.length := by
  cases h with
  | last => exact Nat.one_pos
  | cons => exact Nat.succ_pos _

/-- A cycle of a sequence ends it if it is the last, else it continues it. -/
theorem Sequence.get {acts : List Action} (h : Sequence acts) {k : Nat} {act : Action} (hk : acts[k]? = some act) :
    (k + 1 < acts.length ∧ Continues act) ∨ (k + 1 = acts.length ∧ Ends act) := by
  induction h generalizing k with
  | last hends =>
    cases k with
    | zero =>
      obtain rfl := Option.some.inj hk
      exact .inr ⟨rfl, hends⟩
    | succ k => cases hk
  | cons hcontinues hrest ih =>
    cases k with
    | zero =>
      obtain rfl := Option.some.inj hk
      exact .inl ⟨Nat.succ_lt_succ hrest.length_pos, hcontinues⟩
    | succ k =>
      exact (ih hk).imp (fun h => ⟨Nat.succ_lt_succ h.1, h.2⟩) fun h => ⟨congrArg (· + 1) h.1, h.2⟩

theorem sequence_reset : Sequence resetCycles :=
  .cons ⟨fun _ => rfl, fun _ => rfl, fun _ => rfl⟩ <| .cons ⟨fun _ => rfl, fun _ => rfl, fun _ => rfl⟩ <|
    .last ⟨fun _ => rfl, fun _ => rfl⟩

theorem sequence_fetch : Sequence fetchCycles :=
  .cons ⟨fun _ => rfl, fun _ => rfl, fun _ => rfl⟩ <| .cons ⟨fun _ => rfl, fun _ => rfl, fun _ => rfl⟩ <|
    .last ⟨fun _ => rfl, fun _ => rfl⟩

theorem sequence_interrupt : Sequence interruptCycles := by
  unfold interruptCycles
  iterate 7 refine .cons ⟨fun _ => rfl, fun _ => rfl, fun _ => rfl⟩ ?_
  exact .last ⟨fun _ => rfl, fun _ => rfl⟩

/-! ## The schedule of an instruction (R140) -/

/-- What the last cycle of an instruction does to the engine's state before the finish step: HLT sets Halt (R364). -/
def effectPhase : Instr → Phase → Phase
  | .hlt, _ => .halt
  | _, p => p

theorem effectPhase_eq (i : Instr) (p : Phase) : effectPhase i p = if i = .hlt then .halt else p := by
  unfold effectPhase
  split
  next => rw [if_pos rfl]
  next hne => rw [if_neg hne]

/-- A template of R140: cycles that continue the sequence, then one that has an effect and finishes; none of them touches the
instruction register. `p` is what the effect does to the engine's state. -/
inductive Template (p : Phase → Phase) : List Action → Prop
  | last {effect : Action} (phase : ∀ u, (effect u).phase = p u.phase) (fault : ∀ u, (effect u).fault = u.fault)
      (header : KeepsHeader effect) : Template p [fun s => finish (effect s)]
  | cons {act : Action} {rest : List Action} :
      Continues act → KeepsHeader act → Template p rest → Template p (act :: rest)

section

variable {p : Phase → Phase} {acts : List Action}

theorem Template.sequence (h : Template p acts) : Sequence acts := by
  induction h with
  | last _ fault => exact .last ⟨fun _ => rfl, fault⟩
  | cons hact _ _ ih => exact .cons hact ih

theorem Template.keepsHeader (h : Template p acts) : ∀ act ∈ acts, KeepsHeader act := by
  induction h with
  | last _ _ header =>
    rw [List.forall_mem_singleton]
    exact ⟨header.irOp, header.irMeta⟩
  | cons _ hheader _ ih =>
    rw [List.forall_mem_cons]
    exact ⟨hheader, ih⟩

/-- A cycle that makes a request, whose answer the rest of the template uses. -/
theorem Template.request {act : Action} {rest : List Action} (hact : ∀ u, (act u).phase = u.phase ∧
    (act u).cyc = u.cyc ∧ (act u).fault = u.fault ∧ (act u).irOp = u.irOp ∧ (act u).irMeta = u.irMeta)
    (hrest : Template p rest) : Template p (act :: rest) :=
  .cons ⟨fun u => (hact u).1, fun u => (hact u).2.1, fun u => (hact u).2.2.1⟩
    ⟨fun u => (hact u).2.2.2.1, fun u => (hact u).2.2.2.2⟩ hrest

theorem Template.effect {effect : Action} (h : ∀ u, (effect u).phase = p u.phase ∧ (effect u).fault = u.fault ∧
    (effect u).irOp = u.irOp ∧ (effect u).irMeta = u.irMeta) : Template p [fun s => finish (effect s)] :=
  .last (fun u => (h u).1) (fun u => (h u).2.1) ⟨fun u => (h u).2.2.1, fun u => (h u).2.2.2⟩

/-- The last cycle of an ALU-class instruction (R141). -/
theorem Template.apply {w : Nat} (r1 : Selector) (out : State → AluOut w) :
    Template id [fun s => finish (applyOut r1 (out s) s)] := by
  refine .effect fun u => ?_
  rw [applyOut]
  cases (out u).result <;> exact ⟨rfl, rfl, rfl, rfl⟩

theorem Template.jump (cond : Flags → Bool) (m : AbsOperand) : Template id [jumpCycle cond m] := by
  refine .effect fun u => ?_
  split <;> exact ⟨rfl, rfl, rfl, rfl⟩

theorem Template.returnPops {rest : List Action} (h : Template p rest) : Template p (returnPops ++ rest) := by
  unfold Machine.returnPops
  iterate 3 refine .request (fun _ => ⟨rfl, rfl, rfl, rfl, rfl⟩) ?_
  exact h

end

/-- Every instruction's schedule is a template: the cases are those of R140. -/
theorem schedule_template (i : Instr) : Template (effectPhase i) (schedule i) := by
  cases i with
  | addAbs | addbAbs | subAbs | subbAbs | andAbs | andbAbs | orAbs | orbAbs | xorAbs | xorbAbs | cmpAbs | cmpbAbs
  | movAbs | movbAbs =>
    refine .request (fun _ => ⟨rfl, rfl, rfl, rfl, rfl⟩) ?_
    exact .apply _ _
  | str | strb | push | pushb | pop | popb | inImm | inReg | outImm | outReg =>
    refine .request (fun _ => ⟨rfl, rfl, rfl, rfl, rfl⟩) ?_
    exact .effect fun _ => ⟨rfl, rfl, rfl, rfl⟩
  | jmp | beq | bne | bcs | bcc | bmi | bpl | bvs | bvc | blt | bgt => exact .jump _ _
  | jsr =>
    refine .request ?_ (.request ?_ (.request ?_ (.effect fun _ => ⟨rfl, rfl, rfl, rfl⟩)))
    all_goals exact fun _ => ⟨rfl, rfl, rfl, rfl, rfl⟩
  | rts => exact .returnPops (.effect fun _ => ⟨rfl, rfl, rfl, rfl⟩)
  | rti =>
    refine .returnPops (.request ?_ (.effect fun _ => ⟨rfl, rfl, rfl, rfl⟩))
    exact fun _ => ⟨rfl, rfl, rfl, rfl, rfl⟩
  | sec | clc | sei | cli | clv | nop | hlt => exact .effect fun _ => ⟨rfl, rfl, rfl, rfl⟩
  | _ => exact .apply _ _

/-- The templates of R140 have as many cycles as their table says, those that read the operand bytes among them. -/
theorem length_schedule (i : Instr) :
    (operandCycles i.entry.1 i.entry.2 ++ schedule i).length = templateLength i.entry.1 i.entry.2 := by
  cases i <;> rfl

theorem templateLength_range (mn : Mnemonic) (mode : Mode) :
    1 ≤ templateLength mn mode ∧ templateLength mn mode ≤ 6 := by
  cases mn <;> cases mode <;> decide

theorem operandCycles_continue (mn : Mnemonic) (mode : Mode) : ∀ act ∈ operandCycles mn mode, Continues act := by
  cases mode with
  | implied | register => simp [operandCycles]
  | immediate =>
    simp only [operandCycles, List.forall_mem_singleton]
    exact ⟨fun _ => rfl, fun _ => rfl, fun _ => rfl⟩
  | absolute =>
    simp only [operandCycles, List.forall_mem_cons]
    exact ⟨⟨fun _ => rfl, fun _ => rfl, fun _ => rfl⟩, ⟨fun _ => rfl, fun _ => rfl, fun _ => rfl⟩, by simp⟩

theorem operandCycles_keepsHeader (mn : Mnemonic) (mode : Mode) : ∀ act ∈ operandCycles mn mode, KeepsHeader act := by
  cases mode with
  | implied | register => simp [operandCycles]
  | immediate =>
    simp only [operandCycles, List.forall_mem_singleton]
    exact ⟨fun _ => rfl, fun _ => rfl⟩
  | absolute =>
    simp only [operandCycles, List.forall_mem_cons]
    exact ⟨⟨fun _ => rfl, fun _ => rfl⟩, ⟨fun _ => rfl, fun _ => rfl⟩, by simp⟩

/-! ## The instruction that the engine has latched (R103, R125) -/

/-- The instruction is built from the metadata word `m` and some operand bytes. -/
def BuiltFrom (c : Config) (m : Word) (mn : Mnemonic) (mode : Mode) (i : Instr) : Prop :=
  ∃ o, buildInstr (withOperand (metaFields c.metaLayout m) o) mn mode = some i

theorem length_latchedOperand (mn : Mnemonic) (mode : Mode) (s : State) :
    (latchedOperand mn mode s).length = operandSize mn mode := by
  cases mode with
  | immediate => cases h : mn.isByte <;> simp [latchedOperand, operandSize, h]
  | _ => rfl

/-- With an opcode of the table in IR.op an instruction is latched, whatever stands on the lanes; its register fields come
from IR.meta. -/
theorem latchedInstr_of_entry {s : State} {mn : Mnemonic} {mode : Mode}
    (hentry : entryOf s.cfg.opcodeTable s.irOp = .ok (mn, mode)) :
    ∃ i, latchedInstr mn mode s = .ok i ∧ BuiltFrom s.cfg s.irMeta mn mode i := by
  obtain ⟨⟨o, rest⟩, htake⟩ := takeOperand_of_length {} (length_latchedOperand mn mode s).ge
  obtain ⟨i, hbuild⟩ := buildInstr_of_legal (withOperand (metaFields s.cfg.metaLayout s.irMeta) o)
    (mode_legal_of_entryOf hentry)
  have hdecode : decode s.cfg (latchedBytes mn mode s) = .ok (i, rest) := by
    refine decode_eq_ok_iff.mpr ⟨_, _, _, _, mn, mode, _, rfl, hentry, ?_, hbuild⟩
    rw [takeOperand_metaFields, htake, joinWord_hiByte_loByte, Option.map_some]
  exact ⟨i, by rw [latchedInstr, hdecode], o, hbuild⟩

/-- The cycles after the first one use no operand byte: instructions with the same metadata word share them (R141 to
R149). -/
theorem schedule_of_builtFrom {c : Config} {m : Word} {mn : Mnemonic} {mode : Mode} {i j : Instr}
    (hi : BuiltFrom c m mn mode i) (hj : BuiltFrom c m mn mode j) :
    ∃ first first' rest, schedule i = first :: rest ∧ schedule j = first' :: rest := by
  obtain ⟨o, hi⟩ := hi
  obtain ⟨o', hj⟩ := hj
  revert hi hj
  cases mn <;> cases mode <;> intro hi hj <;> cases hi <;> cases hj <;> exact ⟨_, _, _, rfl, rfl⟩

theorem entry_of_builtFrom {c : Config} {m : Word} {mn : Mnemonic} {mode : Mode} {i : Instr}
    (h : BuiltFrom c m mn mode i) : i.entry = (mn, mode) := by
  obtain ⟨o, h⟩ := h
  exact entry_of_buildInstr h

/-- The Execute cycles of a latched instruction: its operand cycles, then its schedule (R125). -/
theorem execute_sequence {c : Config} {m : Word} {mn : Mnemonic} {mode : Mode} {i : Instr}
    (h : BuiltFrom c m mn mode i) : Sequence (operandCycles mn mode ++ schedule i) ∧
      (operandCycles mn mode ++ schedule i).length = templateLength mn mode := by
  have hentry := entry_of_builtFrom h
  have hlength := length_schedule i
  rw [hentry] at hlength
  exact ⟨.append (operandCycles_continue mn mode) (schedule_template i).sequence, hlength⟩

section

variable {s : State} {mn : Mnemonic} {mode : Mode}

theorem executeCycle_error {e : DecodeError} (h : entryOf s.cfg.opcodeTable s.irOp = .error e) :
    executeCycle s = tick (dispatchFaultCycle e) s := by
  simp [executeCycle, h]

theorem executeCycle_latched {i : Instr} (hentry : entryOf s.cfg.opcodeTable s.irOp = .ok (mn, mode))
    (hlatched : latchedInstr mn mode s = .ok i) :
    executeCycle s = tickAt (operandCycles mn mode ++ schedule i) s := by
  simp [executeCycle, hentry, hlatched]

end

/-- Inside its list a sequence runs the cycle at the counter (R120). -/
theorem tickAt_of_getElem {acts : List Action} {k : Nat} {act : Action} {s : State} (hcyc : s.cyc = k + 1)
    (hact : acts[k]? = some act) : tickAt acts s = tick act s := by
  simp [tickAt, hcyc, hact]

/-! ## What a cycle of a sequence leaves -/

section

variable {act : Action} {s t : State}

theorem resolve_cyc (s : State) : (resolve s).cyc = s.cyc := by rw [resolve_eq]
theorem resolve_irOp (s : State) : (resolve s).irOp = s.irOp := by rw [resolve_eq]
theorem resolve_irMeta (s : State) : (resolve s).irMeta = s.irMeta := by rw [resolve_eq]

theorem Continues.tick_next (hact : Continues act) (h : tick act s = .next t) :
    t.phase = s.phase ∧ t.cyc = s.cyc + 1 := by
  have ht := (tick_next_resolve h).2
  rw [tick_next_phase h, ht, resolve_cyc]
  simp [hact.phase, hact.cyc]

theorem KeepsHeader.tick_next (hact : KeepsHeader act) (h : tick act s = .next t) :
    t.irOp = s.irOp ∧ t.irMeta = s.irMeta := by
  have ht := (tick_next_resolve h).2
  rw [ht, resolve_irOp, resolve_irMeta]
  simp [hact.irOp, hact.irMeta]

/-- The parameters and the instruction register are as before: the same opcode is looked up, the same registers are
named (R34, R41). -/
structure SameHeader (s t : State) : Prop where
  cfg : t.cfg = s.cfg
  irOp : t.irOp = s.irOp
  irMeta : t.irMeta = s.irMeta

theorem SameHeader.tick_next {r : State} (hs : SameHeader r s) (hact : KeepsHeader act) (hquiet : Quiet act)
    (h : tick act s = .next t) : SameHeader r t :=
  ⟨(tick_keeps_cfg hquiet h).trans hs.cfg, (hact.tick_next h).1.trans hs.irOp, (hact.tick_next h).2.trans hs.irMeta⟩

theorem runCycles_sameHeader {acts : List Action} (hheader : ∀ act ∈ acts, KeepsHeader act)
    (hquiet : ∀ act ∈ acts, Quiet act) (h : runCycles acts s = .next t) : SameHeader s t :=
  runCycles_keeps (P := SameHeader s) (fun act hact _ _ hu hv => hu.tick_next (hheader act hact) (hquiet act hact) hv)
    ⟨rfl, rfl, rfl⟩ h

end

/-! ## A step as its cycles (R468) -/

theorem cycles_add (m n : Nat) (s : State) : cycles (m + n) s = andThen (cycles m s) (cycles n) := by
  induction m generalizing s with
  | zero => rw [Nat.zero_add, cycles, andThen_next]
  | succ m ih =>
    rw [Nat.succ_add, cycles, cycles, andThen_assoc]
    congr 1
    funext u
    exact ih u

theorem cycles_one (s : State) : cycles 1 s = cycle s := by
  rw [cycles]
  cases cycle s <;> rfl

/-- A list of cycles run one by one: `Q k` holds before the `k`-th of them, and where it holds the engine runs that cycle. -/
theorem cycles_eq_runCycles {Q : Nat → State → Prop} {acts : List Action} {s : State}
    (hcycle : ∀ k act u, acts[k]? = some act → Q k u → cycle u = tick act u)
    (hnext : ∀ k act u t, acts[k]? = some act → k + 1 < acts.length → Q k u → tick act u = .next t → Q (k + 1) t)
    (hs : Q 0 s) : cycles acts.length s = runCycles acts s := by
  induction acts generalizing Q s with
  | nil => rfl
  | cons act rest ih =>
    rw [List.length_cons, cycles, runCycles_cons, hcycle 0 act s rfl hs]
    cases htick : tick act s with
    | fault f => rfl
    | refused r => rfl
    | next u =>
      rw [andThen_next, andThen_next]
      cases rest with
      | nil => rfl
      | cons act' rest =>
        refine ih (Q := fun k => Q (k + 1)) (fun k act u hk => hcycle (k + 1) act u hk) ?_
          (hnext 0 act s u rfl (by simp) hs htick)
        exact fun k act u t hk hlt => hnext (k + 1) act u t hk (by simpa using hlt)

/-- Reset, Fetch and Interrupt: the sequence is its cycles from cycle 1 on. -/
theorem cycles_sequence {acts : List Action} {p : Phase} {s : State} (hacts : Sequence acts)
    (hcycle : ∀ u : State, u.phase = p → cycle u = tickAt acts u) (hphase : s.phase = p) (hcyc : s.cyc = 1) :
    cycles acts.length s = runCycles acts s := by
  refine cycles_eq_runCycles (Q := fun k u => u.phase = p ∧ u.cyc = k + 1) ?_ ?_ ⟨hphase, hcyc⟩
  · rintro k act u hk ⟨hp, hc⟩
    rw [hcycle u hp, tickAt_of_getElem hc hk]
  · rintro k act u t hk hlt ⟨hp, hc⟩ htick
    obtain ⟨-, hact⟩ | ⟨hlast, -⟩ := hacts.get hk
    · obtain ⟨hphase', hcyc'⟩ := hact.tick_next htick
      exact ⟨hphase'.trans hp, by rw [hcyc', hc]⟩
    · omega

/-! Execute, from its cycle 1: the operand cycles, then the schedule of the instruction latched by them. -/

section

variable {s : State} {mn : Mnemonic} {mode : Mode}

/-- The engine is at cycle `k + 1` of Execute with the header of `s`. -/
structure Executes (s : State) (k : Nat) (u : State) : Prop where
  phase : u.phase = .execute
  cyc : u.cyc = k + 1
  header : SameHeader s u

theorem Executes.entry {k : Nat} {u : State} (hu : Executes s k u)
    (hentry : entryOf s.cfg.opcodeTable s.irOp = .ok (mn, mode)) :
    entryOf u.cfg.opcodeTable u.irOp = .ok (mn, mode) := by
  rw [hu.header.cfg, hu.header.irOp, hentry]

theorem Executes.tick_next {k : Nat} {u t : State} {act : Action} (hu : Executes s k u) (hact : Continues act)
    (hheader : KeepsHeader act) (hquiet : Quiet act) (h : tick act u = .next t) : Executes s (k + 1) t := by
  obtain ⟨hphase, hcyc⟩ := hact.tick_next h
  exact ⟨hphase.trans hu.phase, by rw [hcyc, hu.cyc], hu.header.tick_next hheader hquiet h⟩

/-- The operand cycles are the first cycles of Execute, whatever stands on the lanes (R125). -/
theorem cycles_operandCycles (hentry : entryOf s.cfg.opcodeTable s.irOp = .ok (mn, mode)) (hs : Executes s 0 s) :
    cycles (operandCycles mn mode).length s = runCycles (operandCycles mn mode) s := by
  refine cycles_eq_runCycles (Q := Executes s) (fun k act u hk hu => ?_) (fun k act u t hk _ hu h => ?_) hs
  · obtain ⟨i, hlatched, -⟩ := latchedInstr_of_entry (hu.entry hentry)
    obtain ⟨hlt, -⟩ := List.getElem?_eq_some_iff.mp hk
    rw [cycle_execute hu.phase, executeCycle_latched (hu.entry hentry) hlatched]
    exact tickAt_of_getElem hu.cyc (by rw [List.getElem?_append_left hlt, hk])
  · have hmem := List.mem_of_getElem? hk
    exact hu.tick_next (operandCycles_continue mn mode act hmem) (operandCycles_keepsHeader mn mode act hmem)
      (plain_operand mn mode act hmem).toQuiet h

theorem Executes.runCycles {acts : List Action} {k : Nat} {u t : State} (hcontinues : ∀ act ∈ acts, Continues act)
    (hheader : ∀ act ∈ acts, KeepsHeader act) (hquiet : ∀ act ∈ acts, Quiet act) (hu : Executes s k u)
    (h : Machine.runCycles acts u = .next t) : Executes s (k + acts.length) t := by
  induction acts generalizing k u with
  | nil => cases h; exact hu
  | cons act rest ih =>
    rw [List.forall_mem_cons] at hcontinues hheader hquiet
    obtain ⟨v, hv, hrest⟩ := andThen_eq_next.mp h
    have hv := hu.tick_next hcontinues.1 hheader.1 hquiet.1 hv
    have ht := ih hcontinues.2 hheader.2 hquiet.2 hv hrest
    rwa [Nat.succ_add_eq_add_succ] at ht

theorem executes_of_operandCycles {u : State} (hs : Executes s 0 s)
    (h : runCycles (operandCycles mn mode) s = .next u) : Executes s (operandCycles mn mode).length u := by
  simpa using hs.runCycles (operandCycles_continue mn mode) (operandCycles_keepsHeader mn mode)
    (AllPlain.quiet (plain_operand mn mode)) h

/-- After the operand cycles the engine runs the schedule of the instruction latched there: its later cycles do not depend
on the lanes (R141 to R149). -/
theorem cycles_schedule {u : State} {i : Instr} (hentry : entryOf s.cfg.opcodeTable s.irOp = .ok (mn, mode))
    (hu : Executes s (operandCycles mn mode).length u) (hlatched : latchedInstr mn mode u = .ok i) :
    cycles (schedule i).length u = exec i u := by
  have hbuilt : BuiltFrom s.cfg s.irMeta mn mode i := by
    obtain ⟨j, hj, hbuilt⟩ := latchedInstr_of_entry (hu.entry hentry)
    cases hj.symm.trans hlatched
    rwa [hu.header.cfg, hu.header.irMeta] at hbuilt
  rw [exec_eq_schedule]
  refine cycles_eq_runCycles
    (Q := fun k v => Executes s ((operandCycles mn mode).length + k) v ∧ (k = 0 → latchedInstr mn mode v = .ok i))
    ?_ ?_ ⟨hu, fun _ => hlatched⟩
  · rintro k act v hk ⟨hv, hfirst⟩
    obtain ⟨j, hj, hbuilt'⟩ := latchedInstr_of_entry (hv.entry hentry)
    rw [hv.header.cfg, hv.header.irMeta] at hbuilt'
    have hact : (schedule j)[k]? = some act := by
      cases k with
      | zero =>
        cases hj.symm.trans (hfirst rfl)
        exact hk
      | succ k =>
        obtain ⟨first, first', rest, hschedule', hschedule⟩ := schedule_of_builtFrom hbuilt' hbuilt
        rw [hschedule, List.getElem?_cons_succ] at hk
        rw [hschedule', List.getElem?_cons_succ, hk]
    rw [cycle_execute hv.phase, executeCycle_latched (hv.entry hentry) hj]
    refine tickAt_of_getElem hv.cyc ?_
    rw [List.getElem?_append_right (Nat.le_add_right ..), Nat.add_sub_cancel_left, hact]
  · rintro k act v t hk hlt ⟨hv, -⟩ h
    have hmem := List.mem_of_getElem? hk
    obtain ⟨-, hact⟩ | ⟨hlast, -⟩ := (schedule_template i).sequence.get hk
    · exact ⟨hv.tick_next hact ((schedule_template i).keepsHeader act hmem) (plain_schedule i act hmem).toQuiet h, by simp⟩
    · omega

/-- Execute of an opcode of the table takes the cycles of its template (R140). -/
theorem cycles_executeFetched (hentry : entryOf s.cfg.opcodeTable s.irOp = .ok (mn, mode)) (hs : Executes s 0 s) :
    cycles (templateLength mn mode) s = executeFetched s := by
  obtain ⟨i, -, hbuilt⟩ := latchedInstr_of_entry hentry
  have hlength := (execute_sequence hbuilt).2
  rw [executeFetched, hentry]
  show _ = andThen (runCycles (operandCycles mn mode) s) (executeLatched mn mode)
  have hoperand := cycles_operandCycles hentry hs
  rw [← hlength, List.length_append, cycles_add, hoperand]
  cases hrun : runCycles (operandCycles mn mode) s with
  | fault f => rfl
  | refused r => rfl
  | next u =>
    have hu := executes_of_operandCycles hs hrun
    obtain ⟨j, hj, hbuilt'⟩ := latchedInstr_of_entry (hu.entry hentry)
    rw [hu.header.cfg, hu.header.irMeta] at hbuilt'
    have hlength' := (execute_sequence hbuilt').2
    rw [← hlength, List.length_append, List.length_append, Nat.add_left_cancel_iff] at hlength'
    rw [andThen_next, andThen_next, executeLatched, hj, ← hlength', cycles_schedule hentry hu hj]

end

/-- A fetch that is answered leads to Execute cycle 1 (R124). -/
theorem executes_of_fetchCycles {s u : State} (h : runCycles fetchCycles s = .next u) :
    Executes u 0 u := by
  obtain ⟨v, hv, h⟩ := andThen_eq_next.mp h
  obtain ⟨w, hw, h⟩ := andThen_eq_next.mp h
  obtain ⟨x, hx, h⟩ := andThen_eq_next.mp h
  cases h
  refine ⟨?_, ?_, rfl, rfl, rfl⟩
  · rw [tick_next_phase hx]
  · rw [(tick_next_resolve hx).2, resolve_cyc]

theorem cycles_fetch {s : State} (hphase : s.phase = .fetch) (hcyc : s.cyc = 1) :
    cycles 3 s = runCycles fetchCycles s :=
  cycles_sequence sequence_fetch (fun _ => cycle_fetch) hphase hcyc

theorem cycles_reset {s : State} (hphase : s.phase = .reset) (hcyc : s.cyc = 1) :
    cycles 3 s = runCycles resetCycles s :=
  cycles_sequence sequence_reset (fun _ => cycle_reset) hphase hcyc

theorem cycles_interrupt {s : State} (hphase : s.phase = .interrupt) (hcyc : s.cyc = 1) :
    cycles 8 s = runCycles interruptCycles s :=
  cycles_sequence sequence_interrupt (fun _ => cycle_interrupt) hphase hcyc

/-- Execute of an opcode that the table does not decode is the one cycle that faults (R125). -/
theorem cycles_executeFetched_error {s : State} {e : DecodeError} (hs : s.phase = .execute)
    (h : entryOf s.cfg.opcodeTable s.irOp = .error e) : cycles 1 s = executeFetched s := by
  rw [cycles_one, cycle_execute hs, executeCycle_error h, executeFetched, h]

theorem executeFetched_isCycles {s : State} (hs : Executes s 0 s) :
    ∃ n, 1 ≤ n ∧ n ≤ 6 ∧ cycles n s = executeFetched s := by
  cases hentry : entryOf s.cfg.opcodeTable s.irOp with
  | error e => exact ⟨1, le_rfl, by decide, cycles_executeFetched_error hs.phase hentry⟩
  | ok entry =>
    obtain ⟨mn, mode⟩ := entry
    obtain ⟨hpos, hle⟩ := templateLength_range mn mode
    exact ⟨templateLength mn mode, hpos, hle, cycles_executeFetched hentry hs⟩

theorem runInstruction_isCycles {s : State} (hphase : s.phase = .fetch) (hcyc : s.cyc = 1) :
    ∃ n, 1 ≤ n ∧ n ≤ 9 ∧ cycles n s = runInstruction s := by
  have hfetch := cycles_fetch hphase hcyc
  rw [runInstruction]
  cases hrun : runCycles fetchCycles s with
  | fault f => exact ⟨3, by decide, by decide, hfetch.trans hrun⟩
  | refused r => exact ⟨3, by decide, by decide, hfetch.trans hrun⟩
  | next u =>
    obtain ⟨n, -, hn, hexecute⟩ := executeFetched_isCycles (executes_of_fetchCycles hrun)
    refine ⟨3 + n, by omega, by omega, ?_⟩
    rw [cycles_add, hfetch, hrun, andThen_next, andThen_next, hexecute]

section

variable {s : State}

theorem step_reset (hphase : s.phase = .reset) (hcyc : s.cyc = 1) : step s = runCycles resetCycles s := by
  simp [step, nextSequence, hphase, hcyc]

theorem step_runInstruction (hphase : s.phase = .fetch) (hcyc : s.cyc = 1) : step s = runInstruction s := by
  simp [step, nextSequence, hphase, hcyc]

theorem step_interrupt (hphase : s.phase = .interrupt) (hcyc : s.cyc = 1) : step s = runCycles interruptCycles s := by
  simp [step, nextSequence, hphase, hcyc, takeInterrupt]

/-- Away from the start of a sequence a step is one cycle, and so it is in Halt (R468). -/
theorem step_eq_cycle (h : s.cyc ≠ 1 ∨ s.phase = .execute ∨ s.phase = .halt) : step s = cycle s := by
  obtain h | h | h := h <;> simp [step, nextSequence, h]

end

/-- Settles O21, by the sequence that starts. -/
theorem stepIsItsCycles : Obligations.StepIsItsCycles := by
  rintro s hcyc (hphase | hphase | hphase)
  · exact ⟨3, by decide, by decide, (cycles_reset hphase hcyc).trans (step_reset hphase hcyc).symm⟩
  · rw [step_runInstruction hphase hcyc]
    exact runInstruction_isCycles hphase hcyc
  · exact ⟨8, by decide, by decide, (cycles_interrupt hphase hcyc).trans (step_interrupt hphase hcyc).symm⟩

/-- Every step is a number of cycles. -/
theorem step_isCycles (s : State) : ∃ n, cycles n s = step s := by
  by_cases h : s.cyc ≠ 1 ∨ s.phase = .execute ∨ s.phase = .halt
  · exact ⟨1, (cycles_one s).trans (step_eq_cycle h).symm⟩
  · obtain ⟨hcyc, hexecute, hhalt⟩ : s.cyc = 1 ∧ s.phase ≠ .execute ∧ s.phase ≠ .halt := by simpa using h
    have hphase : s.phase = .reset ∨ s.phase = .fetch ∨ s.phase = .interrupt := by
      cases hp : s.phase <;> simp_all
    obtain ⟨n, -, -, hn⟩ := stepIsItsCycles s hcyc hphase
    exact ⟨n, hn⟩

/-! ## The instruction register over an instruction -/

theorem exec_sameHeader {i : Instr} {s t : State} (h : exec i s = .next t) : SameHeader s t := by
  rw [exec_eq_schedule] at h
  exact runCycles_sameHeader (schedule_template i).keepsHeader (AllPlain.quiet (plain_schedule i)) h

/-- An opcode whose Execute completes is in the table, and it stays in IR.op (R34, R125). -/
theorem executeFetched_next {s t : State} (h : executeFetched s = .next t) :
    SameHeader s t ∧ ∃ mn mode, entryOf s.cfg.opcodeTable s.irOp = .ok (mn, mode) := by
  unfold executeFetched at h
  split at h
  next => exact absurd h (tick_raise_ne_next _ s t)
  next mn mode hentry =>
    obtain ⟨u, hoperand, hexec⟩ := andThen_eq_next.mp h
    have hu := runCycles_sameHeader (operandCycles_keepsHeader mn mode) (AllPlain.quiet (plain_operand mn mode)) hoperand
    unfold executeLatched at hexec
    split at hexec
    next =>
      have ht := exec_sameHeader hexec
      exact ⟨⟨ht.cfg.trans hu.cfg, ht.irOp.trans hu.irOp, ht.irMeta.trans hu.irMeta⟩, mn, mode, hentry⟩
    next => exact absurd hexec (tick_raise_ne_next _ u t)

/-- Settles O22, by the sequence that starts; an instruction's template is that of the opcode still in IR.op. -/
theorem cycleCounts : Obligations.CycleCounts := by
  intro s t hcyc h
  refine ⟨fun hphase => ?_, fun hphase => ?_, fun hphase => ?_⟩
  · rw [cycles_reset hphase hcyc, ← step_reset hphase hcyc, h]
  · rw [cycles_interrupt hphase hcyc, ← step_interrupt hphase hcyc, h]
  · rw [step_runInstruction hphase hcyc] at h
    obtain ⟨u, hfetch, hexecute⟩ := andThen_eq_next.mp h
    obtain ⟨ht, mn, mode, hentry⟩ := executeFetched_next hexecute
    have hcfg : u.cfg = s.cfg := runCycles_keeps_cfg (AllPlain.quiet plain_fetch) hfetch
    refine ⟨mn, mode, by rw [← hcfg, ht.irOp, hentry], ?_⟩
    rw [cycles_add, cycles_fetch hphase hcyc, hfetch, andThen_next,
      cycles_executeFetched hentry (executes_of_fetchCycles hfetch), hexecute]

end Sys2Proof.Proofs
end

section
/-! PROOFS. The range of the cycle counter, the faults that a cycle in range can raise, the finish step (spec 40_engine.md R126 to R132, 60_exceptions.md R430). -/

namespace Sys2Proof.Proofs

open Sys2Proof.Machine Sys2Proof.Laws

/-! ## The range of the cycle counter (R127, R132) -/

theorem lastCycle_pos (s : State) : 1 ≤ lastCycle s := by
  unfold lastCycle
  split
  case h_3 =>
    split
    next => exact (templateLength_range _ _).1
    next => exact le_rfl
  all_goals decide

theorem lastCycle_le (s : State) : lastCycle s ≤ 8 := by
  unfold lastCycle
  split
  case h_3 =>
    split
    next mn mode _ =>
      have := (templateLength_range mn mode).2
      omega
    next => decide
  all_goals decide

theorem lastCycle_reset {s : State} (hs : s.phase = .reset) : lastCycle s = 3 := by simp [lastCycle, hs]

theorem lastCycle_fetch {s : State} (hs : s.phase = .fetch) : lastCycle s = 3 := by simp [lastCycle, hs]

theorem lastCycle_interrupt {s : State} (hs : s.phase = .interrupt) : lastCycle s = 8 := by simp [lastCycle, hs]

theorem lastCycle_halt {s : State} (hs : s.phase = .halt) : lastCycle s = 1 := by simp [lastCycle, hs]

theorem lastCycle_execute {s : State} {mn : Mnemonic} {mode : Mode} (hs : s.phase = .execute)
    (hentry : entryOf s.cfg.opcodeTable s.irOp = .ok (mn, mode)) : lastCycle s = templateLength mn mode := by
  simp [lastCycle, hs, hentry]

/-- The action of a cycle leaves no fault and a counter that is in range once incremented, or it raises a configuration
fault. -/
def InRangeNext (u : State) : Prop :=
  (u.fault = none ∧ u.cyc + 1 ≤ lastCycle u) ∨ ∃ f, u.fault = some f ∧ f.code ≤ 2

section

variable {s : State}

/-- A cycle of a sequence whose cycles that continue it do not change its length. -/
theorem tickAt_inRange {acts : List Action} (hacts : Sequence acts) (hs : CounterInRange s)
    (hlength : lastCycle s = acts.length)
    (hsame : ∀ act ∈ acts, Continues act → lastCycle (act (begun s)) = acts.length) :
    ∃ act, tickAt acts s = tick act s ∧ InRangeNext (act (begun s)) := by
  obtain ⟨hfault, hpos, hle⟩ := hs
  obtain ⟨k, hk⟩ : ∃ k, s.cyc = k + 1 := ⟨s.cyc - 1, by omega⟩
  have hlt : k < acts.length := by omega
  have hget : acts[k]? = some acts[k] := List.getElem?_eq_getElem hlt
  refine ⟨acts[k], tickAt_of_getElem hk hget, .inl ?_⟩
  obtain ⟨hlast, hact⟩ | ⟨-, hact⟩ := hacts.get hget
  · rw [hact.fault, hact.cyc, hsame _ (List.getElem_mem hlt) hact, begun_fault, begun_cyc]
    exact ⟨hfault, by omega⟩
  · rw [hact.fault, hact.cyc, begun_fault]
    exact ⟨hfault, lastCycle_pos _⟩

theorem dispatchFault_code (e : DecodeError) (s : State) : (dispatchFault e s).code ≤ 2 := by
  cases e <;> simp [dispatchFault, FaultReg.code]

/-- With the counter in range the cycle is one of its sequence, or the one that faults on an undecodable opcode. -/
theorem cycle_inRange (hs : CounterInRange s) :
    ∃ act, cycle s = tick act s ∧ InRangeNext (act (begun s)) := by
  have fixed {acts : List Action} {p : Phase} {n : Nat} (hacts : Sequence acts) (hp : s.phase = p)
      (hn : ∀ u : State, u.phase = p → lastCycle u = n) (hlength : acts.length = n) :
      ∃ act, tickAt acts s = tick act s ∧ InRangeNext (act (begun s)) := by
    refine tickAt_inRange hacts hs ((hn s hp).trans hlength.symm) fun act _ hact => ?_
    rw [hn _ ((hact.phase _).trans ((begun_phase s).trans hp)), hlength]
  rcases phase_cases s.phase with hp | hp | hp | hp | hp
  · rw [cycle_reset hp]
    exact fixed sequence_reset hp (fun _ => lastCycle_reset) rfl
  · rw [cycle_fetch hp]
    exact fixed sequence_fetch hp (fun _ => lastCycle_fetch) rfl
  · rw [cycle_halt hp]
    obtain ⟨hfault, -, hle⟩ := hs
    rw [lastCycle_halt hp] at hle
    refine ⟨_, rfl, .inl ⟨by simp [haltCycle, hfault], ?_⟩⟩
    have : (haltCycle (begun s)).cyc = 0 := by simp [haltCycle]; omega
    rw [this]
    exact lastCycle_pos _
  · rw [cycle_execute hp]
    cases hentry : entryOf s.cfg.opcodeTable s.irOp with
    | error e =>
      rw [executeCycle_error hentry]
      exact ⟨_, rfl, .inr ⟨_, rfl, dispatchFault_code e _⟩⟩
    | ok entry =>
      obtain ⟨mn, mode⟩ := entry
      obtain ⟨i, hlatched, hbuilt⟩ := latchedInstr_of_entry hentry
      obtain ⟨hsequence, hlength⟩ := execute_sequence hbuilt
      rw [executeCycle_latched hentry hlatched]
      refine tickAt_inRange hsequence hs ((lastCycle_execute hp hentry).trans hlength.symm) fun act hmem hact => ?_
      have hheader : KeepsHeader act := (List.mem_append.mp hmem).elim (operandCycles_keepsHeader mn mode act)
        ((schedule_template i).keepsHeader act)
      have hquiet : Plain act := (List.mem_append.mp hmem).elim (plain_operand mn mode act) (plain_schedule i act)
      rw [hlength]
      refine lastCycle_execute ?_ ?_
      · rw [hact.phase, begun_phase, hp]
      · rw [hquiet.cfg, hheader.irOp, begun_cfg, begun_irOp, hentry]
  · rw [cycle_interrupt hp]
    exact fixed sequence_interrupt hp (fun _ => lastCycle_interrupt) rfl

theorem cycle_keeps_counterInRange {t : State} (hs : CounterInRange s) (h : cycle s = .next t) : CounterInRange t := by
  obtain ⟨act, hcycle, hact⟩ := cycle_inRange hs
  rw [hcycle] at h
  obtain ⟨hnone, ht⟩ := tick_next_resolve h
  obtain ⟨-, -, -, htfault⟩ := tick_next h
  obtain ⟨-, hle⟩ | ⟨f, hfault, -⟩ := hact
  · refine ⟨htfault, ?_⟩
    rw [ht, resolve_eq]
    exact ⟨Nat.succ_pos _, hle⟩
  · simp [hnone] at hfault

theorem cycles_keep_counterInRange {n : Nat} {t : State} (hs : CounterInRange s) (h : cycles n s = .next t) :
    CounterInRange t := by
  induction n generalizing s with
  | zero => cases h; exact hs
  | succ n ih =>
    obtain ⟨u, hcycle, hrest⟩ := andThen_eq_next.mp h
    exact ih (cycle_keeps_counterInRange hs hcycle) hrest

end

/-- Settles O23: a step is its cycles, and each keeps the counter in range. -/
theorem stepKeepsCounterInRange : Obligations.StepKeepsCounterInRange := by
  intro s t hs h
  obtain ⟨n, hn⟩ := step_isCycles s
  exact cycles_keep_counterInRange hs (hn.trans h)

/-! ## The faults of a cycle with the counter in range (R430) -/

theorem readOutcome_error_code {place : BusPlace} {wide : Bool} {r : DeviceResult} {f : FaultReg}
    (h : readOutcome place wide r = .error f) : f.code ≤ 8 := by
  cases r <;> cases wide <;> cases h <;> simp [FaultReg.code]

theorem writeOutcome_error_code {place : BusPlace} {taken : Accepted} {r : DeviceResult} {f : FaultReg}
    (h : writeOutcome place taken r = .error f) : f.code ≤ 8 := by
  cases r <;> cases h <;> simp [FaultReg.code]

theorem memRead_error_code {c : Config} {m : Memory} {l : Lines} {a : Addr} {wide : Bool} {f : FaultReg}
    (h : memRead c m l a wide = .error f) : f.code ≤ 8 := by
  unfold memRead at h
  split at h
  next => cases h; simp [FaultReg.code]
  next =>
    split at h
    next => cases h; simp [FaultReg.code]
    next => exact readOutcome_error_code h

theorem deviceWrite_error_code {m : Memory} {rs : List BusRule} {a : Addr} {wide : Bool} {v : Word} {f : FaultReg}
    (h : deviceWrite m rs a wide v = .error f) : f.code ≤ 8 := by
  unfold deviceWrite at h
  split at h
  next => cases h
  next g hg => cases h; exact writeOutcome_error_code hg

theorem memWrite_error_code {c : Config} {m : Memory} {l : Lines} {a : Addr} {wide : Bool} {v : Word} {f : FaultReg}
    (h : memWrite c m l a wide v = .error f) : f.code ≤ 8 := by
  unfold memWrite at h
  split at h
  next => cases h; simp [FaultReg.code]
  next =>
    split at h
    next => cases h; simp [FaultReg.code]
    next =>
      split at h
      next => cases h
      next => exact deviceWrite_error_code h
      next => exact deviceWrite_error_code h

theorem ioReadResult_error_code {c : Config} {l : Lines} {port : Byte} {f : FaultReg}
    (h : ioReadResult c l port = .error f) : f.code ≤ 8 := by
  unfold ioReadResult at h
  split at h
  next => cases h; simp [FaultReg.code]
  next =>
    split at h
    next => cases h
    next g hg => cases h; exact readOutcome_error_code hg

theorem ioWriteResult_error_code {c : Config} {l : Lines} {port value : Byte} {f : FaultReg}
    (h : ioWriteResult c l port value = .error f) : f.code ≤ 8 := by
  unfold ioWriteResult at h
  split at h
  next => cases h; simp [FaultReg.code]
  next => exact writeOutcome_error_code h

section

variable {s t : State} {f : FaultReg}

theorem resolveMem_fault_code (hs : s.fault = none) (h : (resolveMem s).fault = some f) : f.code ≤ 8 := by
  unfold resolveMem at h
  split at h
  next =>
    split at h
    next =>
      split at h
      next => simp [hs] at h
      next g hg => cases h; exact memWrite_error_code hg
    next =>
      split at h
      next => simp [hs] at h
      next g hg => cases h; exact memRead_error_code hg
  next => simp [hs] at h

theorem resolveIo_fault_code (hs : s.fault = none) (h : (resolveIo s).fault = some f) : f.code ≤ 8 := by
  unfold resolveIo at h
  split at h
  next =>
    split at h
    next =>
      split at h
      next => simp [hs] at h
      next g hg => cases h; exact ioWriteResult_error_code hg
    next =>
      split at h
      next => simp [hs] at h
      next g hg => cases h; exact ioReadResult_error_code hg
  next => simp [hs] at h

/-- Resolution raises bus faults only (R430). -/
theorem resolve_fault_code (hs : s.fault = none) (h : (resolve s).fault = some f) : f.code ≤ 8 := by
  unfold resolve at h
  simp only at h
  split at h
  next => exact resolveMem_fault_code hs h
  next hmem => exact resolveIo_fault_code (by simpa using hmem) h

/-- A cycle that stops has recorded its fault: the action raised it, or resolution did (R431). -/
theorem tick_fault {act : Action} {e : Fault} (hs : s.fault = none) (h : tick act s = .fault e) :
    ∃ f t, e = faultOf f t ∧
      ((act (begun s)).fault = some f ∨ ∃ u : State, u.fault = none ∧ (resolve u).fault = some f) := by
  obtain hact | ⟨f, hact⟩ := Option.eq_none_or_eq_some (act (begun s)).fault
  · have hengine := engineCycle_eq (act := act) (s := s) rfl hact
    simp only [tick, hs, hengine, hact, Option.isSome_none, Bool.false_eq_true, if_false, settle] at h
    split at h
    next => cases h
    next f hf =>
      cases h
      exact ⟨f, _, rfl, .inr ⟨_, rfl, hf⟩⟩
  · rw [tick_raise hs rfl hact] at h
    cases h
    exact ⟨f, _, rfl, .inl hact⟩

/-- SEQ_RANGE is the fault of code 9 (R430). -/
theorem faultOf_ne_seqRange (hf : f.code ≤ 8) (s t : State) : faultOf f s ≠ .seqRange t := by
  cases f with
  | seqRange => simp [FaultReg.code] at hf
  | _ => exact nofun

theorem cycle_ne_seqRange (hs : CounterInRange s) (t : State) : cycle s ≠ .fault (.seqRange t) := by
  intro h
  obtain ⟨act, hcycle, hact⟩ := cycle_inRange hs
  rw [hcycle] at h
  obtain ⟨f, u, he, hf⟩ := tick_fault hs.1 h
  refine faultOf_ne_seqRange ?_ u t he.symm
  obtain hf | ⟨v, hnone, hf⟩ := hf
  · obtain ⟨hnone, -⟩ | ⟨g, hg, hcode⟩ := hact
    · simp [hnone] at hf
    · cases hf.symm.trans hg
      omega
  · exact resolve_fault_code hnone hf

theorem cycles_ne_seqRange {n : Nat} (hs : CounterInRange s) (t : State) : cycles n s ≠ .fault (.seqRange t) := by
  induction n generalizing s with
  | zero => exact nofun
  | succ n ih =>
    rw [cycles]
    cases hcycle : cycle s with
    | next u => exact ih (cycle_keeps_counterInRange hs hcycle)
    | fault e =>
      have he := cycle_ne_seqRange hs t
      rwa [hcycle] at he
    | refused r => exact nofun

end

/-- Settles O25. -/
theorem sequencingFaultUnreachable : Obligations.SequencingFaultUnreachable := by
  intro s hs
  obtain ⟨n, hn⟩ := step_isCycles s
  exact ⟨hs.2.2.trans (lastCycle_le s), fun t => ⟨cycle_ne_seqRange hs t, hn ▸ cycles_ne_seqRange hs t⟩⟩

/-! ## The finish step (R126) -/

/-- After the last cycle of an instruction, whose effect left `u`. -/
def finished (u : State) : State := { finish u with cyc := 1 }

section

variable {s t : State}

/-- The last cycle of an instruction: its effect, the finish step, no request. -/
theorem tick_finish {effect : Action} (hs : s.fault = none) (h : (effect (begun s)).fault = none) :
    tick (fun u => finish (effect u)) s = .next (finished (effect (begun s))) :=
  tick_idle (u := finish (effect (begun s))) hs rfl h rfl rfl

/-- A template that completes leaves the engine where its effect and the latch lead it (R126). -/
theorem Template.completes {p : Phase → Phase} {acts : List Action} (hacts : Template p acts) (hplain : AllPlain acts)
    (h : runCycles acts s = .next t) :
    t.phase = (if p s.phase = .halt then .halt else if t.istat ≠ .none then .interrupt else .fetch) ∧
      t.cyc = 1 ∧ t.busEnable = false ∧ t.ioEnable = false ∧ t.irqAck = false ∧ t.fault = none := by
  induction hacts generalizing s with
  | @last effect phase fault =>
    obtain ⟨u, hu, hrest⟩ := andThen_eq_next.mp h
    cases hrest
    have hirqAck := (hplain _ (List.mem_singleton_self _)).irqAck (begun s)
    have hs : s.fault = none := (tick_next hu).1
    have heffect : (effect (begun s)).fault = none := by rw [fault, begun_fault, hs]
    rw [tick_finish hs heffect] at hu
    cases hu
    refine ⟨?_, rfl, rfl, rfl, hirqAck, heffect⟩
    show (finish (effect (begun s))).phase = _
    rw [finish_phase, phase, begun_phase]
    rfl
  | cons hcontinues _ _ ih =>
    obtain ⟨u, hu, hrest⟩ := andThen_eq_next.mp h
    rw [← (hcontinues.tick_next hu).1]
    exact ih (fun act hact => hplain act (List.mem_cons_of_mem _ hact)) hrest

end

/-- Settles O27. -/
theorem finishChoosesNextState : Obligations.FinishChoosesNextState := by
  rintro i s t ⟨-, hphase⟩ h
  rw [exec_eq_schedule] at h
  have ht := (schedule_template i).completes (plain_schedule i) h
  rw [hphase, effectPhase_eq] at ht
  by_cases hi : i = .hlt
  · simpa [hi] using ht
  · simpa [hi] using ht

end Sys2Proof.Proofs
end

section
/-! PROOFS. The environment over the cycles of an instruction, the reading of the operand bytes, a step as the meaning of the instruction at pc (spec 40_engine.md R124, R125, R133, R141). -/

namespace Sys2Proof.Proofs

open Sys2Proof.Machine Sys2Proof.Laws

/-! ## Cycle after cycle -/

theorem runCycles_cons_of_tick {act : Action} {s t : State} (h : tick act s = .next t) (rest : List Action) :
    runCycles (act :: rest) s = runCycles rest t := by
  rw [runCycles_cons, h, andThen_next]

theorem runCycles_single {act : Action} {s t : State} (h : tick act s = .next t) : runCycles [act] s = .next t :=
  runCycles_cons_of_tick h []

/-! ## The environment over cycles -/

/-- The environment drives the same, now and in the cycles to come. -/
structure SameEnvironment (s t : State) : Prop where
  lines : t.lines = s.lines
  stim : t.stim = s.stim

section

variable {s t u : State}

theorem SameEnvironment.trans (h : SameEnvironment s t) (h' : SameEnvironment t u) : SameEnvironment s u :=
  ⟨h'.lines.trans h.lines, h'.stim.trans h.stim⟩

theorem SameEnvironment.environment (h : SameEnvironment s t) : SameEnvironment (environment s) (environment t) := by
  obtain ⟨hlines, hstim⟩ := h
  unfold Machine.environment
  rw [hstim]
  split
  next => exact ⟨hlines, hstim⟩
  next => exact ⟨rfl, rfl⟩

theorem SameEnvironment.envAt (h : SameEnvironment s t) (n : Nat) : SameEnvironment (envAt n s) (envAt n t) := by
  induction n generalizing s t with
  | zero => exact h
  | succ n ih => exact ih h.environment

/-- After a cycle the environment has moved on by one (log entry 4). -/
theorem tick_next_environment {act : Action} (hact : Quiet act) (h : tick act s = .next t) :
    SameEnvironment (environment s) t := by
  rw [(tick_next_resolve h).2, resolve_eq]
  exact ⟨(hact.lines _).trans (begun_lines s), (hact.stim _).trans (begun_stim s)⟩

theorem linesAt_of_tick {act : Action} (hact : Quiet act) (h : tick act s = .next t) (n : Nat) :
    linesAt t n = linesAt s (n + 1) :=
  ((tick_next_environment hact h).envAt n).lines

theorem runCycles_environment {acts : List Action} (hacts : ∀ act ∈ acts, Quiet act)
    (h : runCycles acts s = .next t) : SameEnvironment (envAt acts.length s) t := by
  induction acts generalizing s with
  | nil => cases h; exact ⟨rfl, rfl⟩
  | cons act rest ih =>
    rw [List.forall_mem_cons] at hacts
    obtain ⟨u, hu, hrest⟩ := andThen_eq_next.mp h
    exact ((tick_next_environment hacts.1 hu).envAt rest.length).trans (ih hacts.2 hrest)

end

theorem envAt_add (m n : Nat) (s : State) : envAt (m + n) s = envAt n (envAt m s) := by
  induction m generalizing s with
  | zero => rw [Nat.zero_add]; rfl
  | succ m ih => rw [Nat.succ_add]; exact ih (environment s)

/-! ## What fetching leaves alone -/

/-- What the cycles that read the bytes of an instruction leave alone, in Execute with no fault (R124, R133, R141). -/
structure FetchKeeps (s t : State) : Prop where
  fault : t.fault = none
  phase : t.phase = .execute
  cfg : t.cfg = s.cfg
  regs : t.regs = s.regs
  flags : t.flags = s.flags
  sp : t.sp = s.sp
  mem : t.mem = s.mem
  accepted : t.accepted = s.accepted
  istat : s.istat ≠ .none → t.istat = s.istat
  ioPorts : KeepsIoPorts s t

theorem keepsIoPorts_trans {s t u : State} (h : KeepsIoPorts s t) (h' : KeepsIoPorts t u) : KeepsIoPorts s u :=
  ⟨h'.1.trans h.1, h'.2.1.trans h.2.1, h'.2.2.trans h.2.2⟩

theorem FetchKeeps.trans {s t u : State} (h : FetchKeeps s t) (h' : FetchKeeps t u) : FetchKeeps s u where
  fault := h'.fault
  phase := h'.phase
  cfg := h'.cfg.trans h.cfg
  regs := h'.regs.trans h.regs
  flags := h'.flags.trans h.flags
  sp := h'.sp.trans h.sp
  mem := h'.mem.trans h.mem
  accepted := h'.accepted.trans h.accepted
  istat hs := (h'.istat ((h.istat hs).symm ▸ hs)).trans (h.istat hs)
  ioPorts := keepsIoPorts_trans h.ioPorts h'.ioPorts

theorem FetchKeeps.refl {s : State} (hs : Ready s) : FetchKeeps s s :=
  ⟨hs.1, hs.2, rfl, rfl, rfl, rfl, rfl, rfl, fun _ => rfl, rfl, rfl, rfl⟩

theorem FetchLeaves.keeps {s t : State} {op : Byte} {m : Word} (h : FetchLeaves s op m t) : FetchKeeps s t :=
  ⟨h.fault, h.phase, h.cfg, h.regs, h.flags, h.sp, h.mem, h.accepted, h.istat, h.ioPorts⟩

/-! ## The operand bytes (R133, R141) -/

/-- The operand bytes of an instruction stand at pc. -/
def OperandAt (s : State) : List Byte → Prop
  | [] => True
  | [x] => Reads s s.pc false (x.setWidth 16)
  | [x, y] => Reads s s.pc true (joinWord x y)
  | [x, y, z] => Reads s s.pc false (x.setWidth 16) ∧ Reads s (s.pc + 1) true (joinWord y z)
  | _ => False

theorem reads_congr {s t : State} (hcfg : t.cfg = s.cfg) (hmem : t.mem = s.mem) {a : Addr} {wide : Bool} {v : Word}
    (h : Reads s a wide v) : Reads t a wide v := by
  intro l
  rw [hcfg, hmem]
  exact h l

/-- The operand bytes stand after the header. -/
theorem operandAt_of_instrAt {s t : State} {op m1 m0 : Byte} {operand : List Byte}
    (h : InstrAt s (op :: m1 :: m0 :: operand)) (hcfg : t.cfg = s.cfg) (hmem : t.mem = s.mem) (hpc : t.pc = s.pc + 3) :
    OperandAt t operand := by
  obtain ⟨-, -, h⟩ := h
  match operand with
  | [] => trivial
  | [_] | [_, _] => rw [OperandAt, hpc]; exact reads_congr hcfg hmem h
  | [_, _, _] =>
    rw [OperandAt, hpc, BitVec.add_assoc]
    exact ⟨reads_congr hcfg hmem h.1, reads_congr hcfg hmem h.2⟩
  | _ :: _ :: _ :: _ :: _ => exact h.elim

/-- The state after a cycle that reads operand bytes at pc: pc is past them, they are on the data lane. -/
def operandRead (wide : Bool) (scr : Addr) (v : Word) (s : State) : State :=
  { busRead s.pc wide (begun s) with
    pc := s.pc + if wide then 2 else 1
    scr := scr
    cyc := s.cyc + 1
    data := v }

section

variable {s : State} {wide : Bool} {v : Word}

theorem tick_operandRead {act : Action} {scr : Addr} (hs : Ready s) (hsole : SoleWriter s)
    (hact : act (begun s) = { busRead s.pc wide (begun s) with pc := s.pc + (if wide then 2 else 1), scr := scr })
    (hread : Reads s s.pc wide v) : tick act s = .next (operandRead wide scr v s) := by
  have h := tick_read hs.1 hact (by simpa using hs.1) rfl rfl rfl (by simpa using begun_reads hsole hread _)
  simpa [operandRead] using h

theorem operandRead_keeps (hs : Ready s) (hsole : SoleWriter s) (scr : Addr) : FetchKeeps s (operandRead wide scr v s) where
  fault := by simp [operandRead, hs.1]
  phase := by simp [operandRead, hs.2]
  cfg := by simp [operandRead]
  regs := by simp [operandRead]
  flags := by simp [operandRead]
  sp := by simp [operandRead]
  mem := by simp [operandRead, begun_mem hsole]
  accepted := by simp [operandRead]
  istat h := by simp [operandRead, begun_istat_of_ne h]
  ioPorts := by simp [operandRead, KeepsIoPorts]

theorem tick_literalCycle (hs : Ready s) (hsole : SoleWriter s) (hread : Reads s s.pc wide v) :
    tick (literalCycle wide) s = .next (operandRead wide s.scr v s) :=
  tick_operandRead hs hsole (by simp [literalCycle, busRead]) hread

theorem tick_bankCycle (hs : Ready s) (hsole : SoleWriter s) (hread : Reads s s.pc false v) :
    tick bankCycle s = .next (operandRead false s.scr v s) :=
  tick_operandRead hs hsole (by simp [bankCycle, busRead]) hread

theorem tick_segmentCycle (hs : Ready s) (hsole : SoleWriter s) (hread : Reads s s.pc true v) :
    tick segmentCycle s = .next (operandRead true (joinAddr (loByte s.data) (segOf s.scr)) v s) :=
  tick_operandRead hs hsole (by simp [segmentCycle, busRead]) hread

end

/-! ## Bytes of a pair -/

theorem hiByte_joinWord (hi lo : Byte) : hiByte (joinWord hi lo) = hi := by
  apply BitVec.eq_of_toNat_eq
  rw [toNat_hiByte, toNat_joinWord]
  omega

theorem loByte_joinWord (hi lo : Byte) : loByte (joinWord hi lo) = lo := by
  apply BitVec.eq_of_toNat_eq
  rw [toNat_loByte, toNat_joinWord]
  omega

theorem bankOf_joinAddr (bank : Byte) (seg : Word) : bankOf (joinAddr bank seg) = bank := by
  apply BitVec.eq_of_toNat_eq
  rw [toNat_bankOf, toNat_joinAddr]
  omega

theorem segOf_joinAddr (bank : Byte) (seg : Word) : segOf (joinAddr bank seg) = seg := by
  apply BitVec.eq_of_toNat_eq
  rw [toNat_segOf, toNat_joinAddr]
  omega

/-! ## The operand cycles -/

/-- What the operand cycles leave: pc past the operand bytes, the bytes latched. -/
structure OperandLatched (mn : Mnemonic) (mode : Mode) (operand : List Byte) (s t : State) : Prop where
  keeps : FetchKeeps s t
  pc : t.pc = s.pc + BitVec.ofNat 24 (operandSize mn mode)
  latched : latchedOperand mn mode t = operand

section

variable {s : State} {mn : Mnemonic} {operand : List Byte}

/-- The literal of Immediate mode (R141). -/
theorem runCycles_immediate (hs : Ready s) (hsole : SoleWriter s) (hlength : operand.length = operandSize mn .immediate)
    (hoperand : OperandAt s operand) :
    ∃ t, runCycles (operandCycles mn .immediate) s = .next t ∧ OperandLatched mn .immediate operand s t := by
  have run {v : Word} (hread : Reads s s.pc (!mn.isByte) v) :
      runCycles (operandCycles mn .immediate) s = .next (operandRead (!mn.isByte) s.scr v s) :=
    runCycles_single (tick_literalCycle hs hsole hread)
  cases hbyte : mn.isByte with
  | true =>
    obtain ⟨x, rfl⟩ : ∃ x, operand = [x] := List.length_eq_one_iff.mp (by simpa [operandSize, hbyte] using hlength)
    refine ⟨_, run (by rw [hbyte]; exact hoperand), operandRead_keeps hs hsole _, ?_, ?_⟩
    · simp [operandRead, operandSize, hbyte]
    · simp [latchedOperand, operandRead, hbyte, loByte_setWidth]
  | false =>
    obtain ⟨x, y, rfl⟩ : ∃ x y, operand = [x, y] := List.length_eq_two.mp (by simpa [operandSize, hbyte] using hlength)
    refine ⟨_, run (by rw [hbyte]; exact hoperand), operandRead_keeps hs hsole _, ?_, ?_⟩
    · simp [operandRead, operandSize, hbyte]
    · simp [latchedOperand, operandRead, hbyte, hiByte_joinWord, loByte_joinWord]

/-- The bank byte and the segment word of Absolute mode (R133). -/
theorem runCycles_absolute (hs : Ready s) (hsole : SoleWriter s) (hlength : operand.length = operandSize mn .absolute)
    (hoperand : OperandAt s operand) :
    ∃ t, runCycles (operandCycles mn .absolute) s = .next t ∧ OperandLatched mn .absolute operand s t := by
  obtain ⟨x, y, z, rfl⟩ : ∃ x y z, operand = [x, y, z] := List.length_eq_three.mp hlength
  obtain ⟨hbank, hseg⟩ := hoperand
  have hkeeps : FetchKeeps s (operandRead false s.scr (x.setWidth 16) s) := operandRead_keeps hs hsole s.scr
  have hready : Ready (operandRead false s.scr (x.setWidth 16) s) := ⟨hkeeps.fault, hkeeps.phase⟩
  have hsole' : SoleWriter (operandRead false s.scr (x.setWidth 16) s) := by rw [SoleWriter, hkeeps.cfg, hsole]
  have hsegment := tick_segmentCycle hready hsole' (reads_congr hkeeps.cfg hkeeps.mem hseg)
  have hrun := (runCycles_cons_of_tick (tick_bankCycle hs hsole hbank) [segmentCycle]).trans (runCycles_single hsegment)
  refine ⟨_, hrun, hkeeps.trans (operandRead_keeps hready hsole' _), ?_, ?_⟩
  · simp [operandRead, operandSize, BitVec.add_assoc]
  · simp [latchedOperand, operandRead, bankOf_joinAddr, hiByte_joinWord, loByte_joinWord, loByte_setWidth]

theorem runCycles_operandCycles {mode : Mode} (hs : Ready s) (hsole : SoleWriter s)
    (hlength : operand.length = operandSize mn mode) (hoperand : OperandAt s operand) :
    ∃ t, runCycles (operandCycles mn mode) s = .next t ∧ OperandLatched mn mode operand s t := by
  cases mode with
  | implied | register =>
    obtain rfl := List.length_eq_zero_iff.mp hlength
    exact ⟨s, rfl, .refl hs, by simp [operandSize], rfl⟩
  | immediate => exact runCycles_immediate hs hsole hlength hoperand
  | absolute => exact runCycles_absolute hs hsole hlength hoperand

end

/-- Settles O19: the fetch of the header, then the operand cycles, after which the bytes at pc are the latched ones. -/
theorem stepRunsDecodedInstruction : Obligations.StepRunsDecodedInstruction := by
  intro s bs i hat hsole hinstr hdecode
  obtain ⟨op, m1, m0, operand, mn, mode, f, rfl, hentry, htake, hbuild⟩ := decode_eq_ok_iff.mp hdecode
  obtain ⟨hop, hmeta, -⟩ := id hinstr
  obtain ⟨used, hused, hlength⟩ := takeOperand_takes htake
  rw [List.append_nil] at hused
  subst hused
  obtain ⟨t, hfetch, ht⟩ := runCycles_fetch hat.1 hsole hop hmeta
  have hsole' : SoleWriter t := by rw [SoleWriter, ht.cfg, hsole]
  obtain ⟨u, hrun, hkeeps, hpc, hlatched⟩ := runCycles_operandCycles ⟨ht.fault, ht.phase⟩ hsole' hlength
    (operandAt_of_instrAt hinstr ht.cfg ht.mem ht.pc)
  have hheader := runCycles_sameHeader (operandCycles_keepsHeader mn mode) (AllPlain.quiet (plain_operand mn mode)) hrun
  have hbytes : latchedBytes mn mode u = op :: m1 :: m0 :: operand := by
    rw [latchedBytes, hlatched, hheader.irOp, hheader.irMeta, ht.irOp, ht.irMeta, hiByte_joinWord, loByte_joinWord]
  have hinstr : latchedInstr mn mode u = .ok i := by
    rw [latchedInstr, hbytes, hheader.cfg, ht.cfg, hdecode]
  have henv : SameEnvironment (envAt (3 + (operandCycles mn mode).length) s) u := by
    rw [envAt_add]
    exact ((runCycles_environment (AllPlain.quiet plain_fetch) hfetch).envAt _).trans
      (runCycles_environment (AllPlain.quiet (plain_operand mn mode)) hrun)
  obtain ⟨-, -, hcfg, hregs, hflags, hsp, hmem, haccepted, histat, hioPorts⟩ := ht.keeps.trans hkeeps
  have hi := entry_of_buildInstr hbuild
  refine ⟨u, ?_, ⟨hkeeps.fault, hkeeps.phase⟩, hcfg, hregs, hflags, hsp, ?_, hmem, haccepted, ?_, histat, hioPorts, ?_, ?_⟩
  · have hentry' : entryOf t.cfg.opcodeTable t.irOp = .ok (mn, mode) := by rw [ht.cfg, ht.irOp, hentry]
    rw [step_fetch hat, runInstruction, hfetch, andThen_next, executeFetched, hentry']
    show andThen (runCycles (operandCycles mn mode) t) (executeLatched mn mode) = _
    rw [hrun, andThen_next, executeLatched, hinstr]
  · rw [hpc, ht.pc, Instr.length, hi, instrLength, BitVec.ofNat_add, BitVec.add_assoc]
    rfl
  · rw [hheader.irOp, hheader.irMeta, ht.irOp, ht.irMeta, hiByte_joinWord, loByte_joinWord]
    rfl
  · rw [hi]
    exact henv.lines
  · rw [hi]
    exact henv.stim

end Sys2Proof.Proofs
end

section
/-! PROOFS. What an instruction leaves when it completes: the engine's part for all of them, the result and the frame of the stores, the stack instructions, the control transfers, IN and OUT (spec 40_engine.md R143 to R149, 46_stack.md, 47_control.md, 49_io_system.md). -/

namespace Sys2Proof.Proofs

open Sys2Proof.Machine Sys2Proof.Laws

/-! ## The engine's part (R34, R41, R126, R403) -/

section

variable {i : Instr} {s t : State}

theorem tick_keeps_istat {act : Action} (hact : Plain act) (hs : s.istat ≠ .none) (h : tick act s = .next t) :
    t.istat = s.istat := by
  rw [(tick_next_resolve h).2, resolve_eq]
  exact (hact.istat _).trans (begun_istat_of_ne hs)

theorem runCycles_keeps_istat {acts : List Action} (hacts : AllPlain acts) (hs : s.istat ≠ .none)
    (h : runCycles acts s = .next t) : t.istat = s.istat :=
  runCycles_keeps (P := fun u => u.istat = s.istat)
    (fun act hact _ _ hu hv => (tick_keeps_istat (hacts act hact) (hu ▸ hs) hv).trans hu) rfl h

theorem exec_keepsEngine (h : exec i s = .next t) : KeepsEngine s t := by
  obtain ⟨hcfg, hirOp, hirMeta⟩ := exec_sameHeader h
  rw [exec_eq_schedule] at h
  exact ⟨hcfg, hirOp, hirMeta, fun hs => runCycles_keeps_istat (plain_schedule i) hs h⟩

theorem exec_finished (hi : i ≠ .hlt) (hs : Ready s) (h : exec i s = .next t) : Finished t := by
  obtain ⟨hphase, hcyc, hbus, hio, hack, hfault⟩ := finishChoosesNextState i s t hs h
  refine ⟨hfault, hcyc, hbus, hio, hack, ?_⟩
  rw [hphase, if_neg hi, ite_not]

/-- What is left to show of an instruction that completes: its registers, flags, pc, sp and scratch register. -/
theorem effect_of_exec {regs : Regs} {flags : Flags} {pc scr : Addr} {sp : Word} (hi : i ≠ .hlt) (hs : Ready s)
    (h : exec i s = .next t) (hregs : t.regs = regs) (hflags : t.flags = flags) (hpc : t.pc = pc) (hsp : t.sp = sp)
    (hscr : t.scr = scr) : Effect s t regs flags pc sp scr :=
  ⟨hregs, hflags, hpc, hsp, hscr, exec_keepsEngine h, exec_finished hi hs h⟩

end

theorem exec_of_schedule {i : Instr} {acts : List Action} {s : State} {r : Result} (hi : schedule i = acts)
    (h : runCycles acts s = r) : exec i s = r := by
  rw [exec_eq_schedule, hi, h]

theorem keepsMemory_of_mem {s t : State} (hcfg : t.cfg = s.cfg) (hmem : t.mem = s.mem) : KeepsMemory s t := by
  intro a
  rw [readByte, readByte, hcfg, hmem]

theorem noStore_of_exec {i : Instr} {s t : State} (h : exec i s = .next t) (haccepted : t.accepted = s.accepted)
    (hmem : SoleWriter s → t.mem = s.mem) : NoStore s t :=
  ⟨haccepted, fun hsole => keepsMemory_of_mem (exec_keepsEngine h).1 (hmem hsole)⟩

/-! ## Operands at the start of a cycle -/

section

variable (s : State)

@[simp] theorem effectiveAddr_begun (m : AbsOperand) : effectiveAddr (begun s) m = effectiveAddr s m := by
  obtain ⟨bank, seg, offset⟩ := m
  cases offset <;> simp [effectiveAddr, offsetValue, indexValue]

@[simp] theorem readSel_begun (sel : Selector) : readSel (begun s) sel = readSel s sel := by simp [readSel]

@[simp] theorem stackAddr_begun : stackAddr (begun s) = stackByte s s.sp := by simp [stackAddr, stackByte]

end

/-! ## States after a cycle -/

/-- After a cycle that left `u` and whose read is answered with `v` (R121). -/
def answered (u : State) (v : Word) : State := { u with cyc := u.cyc + 1, data := v }

/-- After a cycle that left `u` and whose write is accepted (R121). -/
def wrote (u : State) (m : Memory) (log : List Accepted) : State :=
  { u with cyc := u.cyc + 1, mem := m, accepted := log ++ u.accepted }

theorem finished_mem (u : State) : (finished u).mem = u.mem := rfl

theorem linesAt_one (s : State) : linesAt s 1 = (environment s).lines := rfl

/-- A request, then the effect and the finish step. -/
theorem exec_pair {i : Instr} {request effect : Action} {s u : State}
    (hschedule : schedule i = [request, fun s => finish (effect s)]) (hrequest : tick request s = .next u)
    (heffect : (effect (begun u)).fault = none) : exec i s = .next (finished (effect (begun u))) := by
  obtain ⟨-, -, -, hu⟩ := tick_next hrequest
  rw [exec_of_schedule hschedule (runCycles_cons_of_tick hrequest _)]
  exact runCycles_single (tick_finish hu heffect)

/-! ## Jumps (R146) -/

/-- T-JUMP before its finish step: the effective address in scr, and in pc if the condition holds. -/
def jumpEffect (cond : Flags → Bool) (m : AbsOperand) : Action := fun s =>
  { resolveAddr m s with pc := if cond s.flags then effectiveAddr s m else s.pc }

theorem jumpCycle_eq (cond : Flags → Bool) (m : AbsOperand) : jumpCycle cond m = fun s => finish (jumpEffect cond m s) := by
  funext s
  show finish (if cond s.flags then { resolveAddr m s with pc := effectiveAddr s m } else resolveAddr m s) =
    finish { resolveAddr m s with pc := if cond s.flags then effectiveAddr s m else s.pc }
  split <;> rfl

theorem jumpForm {i : AbsOperand → Instr} {cond : Flags → Bool} (hne : ∀ m, i m ≠ .hlt)
    (hschedule : ∀ m, schedule (i m) = [jumpCycle cond m]) : JumpForm i cond := by
  intro s m hs
  have htick := tick_finish (effect := jumpEffect cond m) hs.1 (by simpa [jumpEffect] using hs.1)
  rw [← jumpCycle_eq] at htick
  have hrun := exec_of_schedule (hschedule m) (runCycles_single htick)
  refine ⟨_, hrun, effect_of_exec (hne m) hs hrun ?_ ?_ ?_ ?_ ?_, noStore_of_exec hrun ?_ begun_mem, ?_, ?_⟩
  all_goals simp [finished, jumpEffect, KeepsBusPorts, KeepsIoPorts]

/-- Settles O50. -/
theorem jumpsAndBranches : Obligations.JumpsAndBranches :=
  ⟨jumpForm (fun _ => nofun) (fun _ => rfl), jumpForm (fun _ => nofun) (fun _ => rfl),
    jumpForm (fun _ => nofun) (fun _ => rfl), jumpForm (fun _ => nofun) (fun _ => rfl),
    jumpForm (fun _ => nofun) (fun _ => rfl), jumpForm (fun _ => nofun) (fun _ => rfl),
    jumpForm (fun _ => nofun) (fun _ => rfl), jumpForm (fun _ => nofun) (fun _ => rfl),
    jumpForm (fun _ => nofun) (fun _ => rfl), jumpForm (fun _ => nofun) (fun _ => rfl),
    jumpForm (fun _ => nofun) (fun _ => rfl)⟩

/-! ## A write request, then the finish step: STR, STRB, PUSH, PUSHB (R143, R149) -/

section

variable {c : Config} {m m' : Memory} {l : Lines} {a : Addr} {wide : Bool} {v : Word} {log : List Accepted}

/-- A write leaves every byte outside its addresses (R80). -/
theorem readCell_of_memWrite (h : memWrite c m l a wide v = .ok (m', log)) {b : Addr}
    (hb : b ∉ if wide then [a, a + 1] else [a]) : readCell c.platform m' b = readCell c.platform m b := by
  by_contra hne
  obtain ⟨rfl | ⟨hwide, rfl⟩, -⟩ := memWrite_changes h hne
  · split at hb <;> simp at hb
  · simp [hwide] at hb

/-- An accepted write at a device that stores is its bytes in memory (R74). -/
theorem memWrite_stored (h : memWrite c m l a wide v = .ok (m', log)) {d : MemDevice}
    (hd : firstDevice c.platform a = some d) (hstore : d.onWrite = .store) :
    m' = writeBytes c.platform m a (if wide then [hiByte v, loByte v] else [loByte v]) := by
  by_cases hin : wide = true → claims d (a + 1) = true
  · rw [memWrite_of_store hd hin hstore] at h
    cases h
    rfl
  · rw [memWrite_of_split hd (by simpa using hin)] at h
    cases h

end

/-- What an instruction leaves that writes the value `v` at `a` and nothing else. -/
def WriteLeaves (s t : State) (a : Addr) (wide : Bool) (v : Word) (m : Memory) (log : List Accepted) (sp : Word)
    (scr : Addr) : Prop :=
  Effect s t s.regs s.flags s.pc sp scr ∧ KeepsIoPorts s t ∧
    t.address = a ∧ t.rw = true ∧ t.word = wide ∧ t.data = v ∧
    t.mem = m ∧ t.accepted = log ++ s.accepted ∧
    KeepsMemoryBut (if wide then [a, a + 1] else [a]) s t ∧
    (StoresAt s a →
      if wide then readByte t a = some (hiByte v) ∧ readByte t (a + 1) = some (loByte v)
      else readByte t a = some (loByte v))

section

variable {s t : State} {a : Addr} {wide : Bool} {v : Word} {m : Memory} {log : List Accepted}

theorem keepsMemoryBut_of_memWrite {l : Lines} (hw : memWrite s.cfg s.mem l a wide v = .ok (m, log))
    (hcfg : t.cfg = s.cfg) (hmem : t.mem = m) : KeepsMemoryBut (if wide then [a, a + 1] else [a]) s t := by
  intro b hb
  rw [readByte, readByte, hcfg, hmem]
  exact readCell_of_memWrite hw hb

theorem storedBytes_of_memWrite {l : Lines} (hw : memWrite s.cfg s.mem l a wide v = .ok (m, log))
    (hcfg : t.cfg = s.cfg) (hmem : t.mem = m) (hstores : StoresAt s a) :
    if wide then readByte t a = some (hiByte v) ∧ readByte t (a + 1) = some (loByte v)
    else readByte t a = some (loByte v) := by
  obtain ⟨d, hd, hstore⟩ := hstores
  have hm := memWrite_stored hw hd hstore
  simp only [readByte, hcfg, hmem, hm]
  cases wide with
  | true =>
    refine ⟨?_, ?_⟩
    · exact (readCell_writeBytes_pair ..).trans (by rw [if_neg (addr_ne_succ a), if_pos rfl])
    · exact (readCell_writeBytes_pair ..).trans (if_pos rfl)
  | false => exact (readCell_writeBytes_single ..).trans (if_pos rfl)

/-- A request to write, accepted, and the finish step. -/
theorem completes_write {i : Instr} {request : Action} {w sp : Word} {scr : Addr} (hne : i ≠ .hlt)
    (hschedule : schedule i = [request, finish]) (hs : Ready s) (hsole : SoleWriter s)
    (hrequest : request (begun s) = { busWrite a wide w (begun s) with sp := sp, scr := scr })
    (hv : v = if wide then w else (loByte w).setWidth 16)
    (hw : memWrite s.cfg s.mem (linesAt s 1) a wide v = .ok (m, log)) :
    Completes i s fun t => WriteLeaves s t a wide v m log sp scr := by
  subst hv
  have hwrite : tick request s = .next (wrote { busWrite a wide w (begun s) with sp := sp, scr := scr } m log) :=
    tick_write hs.1 hrequest (by simpa using hs.1) rfl rfl rfl (by simpa [begun_mem hsole, linesAt_one] using hw)
  generalize hu : wrote { busWrite a wide w (begun s) with sp := sp, scr := scr } m log = u at hwrite
  have husole : SoleWriter u := by simpa [← hu, wrote] using hsole
  have hrun := exec_pair (effect := fun v => v) hschedule hwrite (by simpa [← hu, wrote] using hs.1)
  have hcfg := (exec_keepsEngine hrun).1
  have hmem : (finished (begun u)).mem = m := by
    rw [finished_mem, begun_mem husole, ← hu, wrote]
  refine ⟨_, hrun, effect_of_exec hne hs hrun ?_ ?_ ?_ ?_ ?_, ?_, ?_, ?_, ?_, ?_, hmem, ?_,
    keepsMemoryBut_of_memWrite hw hcfg hmem, storedBytes_of_memWrite hw hcfg hmem⟩
  all_goals simp [finished, ← hu, wrote, KeepsIoPorts]

end

theorem storeForm {wide : Bool} {i : Selector → AbsOperand → Instr} (hne : ∀ r1 m, i r1 m ≠ .hlt)
    (hschedule : ∀ r1 m, schedule (i r1 m) = [storeRequest wide r1 m, finish]) : StoreForm wide i := by
  intro s r1 m mem' log hs hsole a v hw
  refine completes_write (w := readSel s r1) (hne r1 m) (hschedule r1 m) hs hsole ?_ rfl hw
  simp [a, storeRequest, busWrite, readSel]

theorem pushForm {wide : Bool} {i : Selector → Instr} (hne : ∀ r1, i r1 ≠ .hlt)
    (hschedule : ∀ r1, schedule (i r1) = pushTemplate wide r1) : PushForm wide i := by
  intro s r1 mem' log hs hsole a v hw
  refine completes_write (w := readSel s r1) (hne r1) (hschedule r1) hs hsole ?_ rfl hw
  simp [a, busWrite, transferSize, countOf]

/-- Settles O46. -/
theorem storeWritesMemory : Obligations.StoreWritesMemory :=
  ⟨storeForm (fun _ _ => nofun) (fun _ _ => rfl), storeForm (fun _ _ => nofun) (fun _ _ => rfl)⟩

/-- Settles O47. -/
theorem pushWritesTheStack : Obligations.PushWritesTheStack :=
  ⟨pushForm (fun _ => nofun) (fun _ => rfl), pushForm (fun _ => nofun) (fun _ => rfl)⟩

/-! ## A pop (R149) -/

/-- A byte that a read has answered is the whole data lane (R67). -/
theorem dataLane_of_memRead {c : Config} {m : Memory} {l : Lines} {a : Addr} {wide : Bool} {v : Word}
    (h : memRead c m l a wide = .ok v) : (if wide then v else (loByte v).setWidth 16) = v := by
  cases wide with
  | true => rfl
  | false =>
    obtain ⟨b, rfl⟩ := memRead_byte h
    rw [loByte_setWidth]
    rfl

theorem popForm {wide : Bool} {i : Selector → Instr} (hne : ∀ r1, i r1 ≠ .hlt)
    (hschedule : ∀ r1, schedule (i r1) = popTemplate wide r1) : PopForm wide i := by
  intro s r1 v hs hsole a hread
  have hpop : tick (fun s => busRead (stackAddr { s with sp := s.sp - transferSize wide }) wide
      { s with sp := s.sp - transferSize wide }) s =
      .next (answered (busRead a wide { begun s with sp := s.sp - countOf wide }) v) :=
    tick_read hs.1 (by simp [a, stackAddr, stackByte, transferSize, countOf]) (by simpa using hs.1) rfl rfl rfl
      (by simpa [begun_mem hsole, linesAt_one] using hread)
  generalize hu : answered (busRead a wide { begun s with sp := s.sp - countOf wide }) v = u at hpop
  have husole : SoleWriter u := by simpa [← hu, answered] using hsole
  have hrun := exec_pair (effect := fun s => writeSel r1 (if wide then s.data else (loByte s.data).setWidth 16) s)
    (hschedule r1) hpop (by simpa [← hu, answered] using hs.1)
  refine ⟨_, hrun, effect_of_exec (hne r1) hs hrun ?_ ?_ ?_ ?_ ?_, noStore_of_exec hrun ?_ fun _ => ?_, ?_, ?_, ?_, ?_, ?_⟩
  case refine_1 => simp [finished, ← hu, answered, dataLane_of_memRead hread, regsWith]
  case refine_7 =>
    rw [finished_mem, writeSel_mem, begun_mem husole, ← hu]
    exact begun_mem hsole
  all_goals simp [finished, ← hu, answered, KeepsIoPorts]

/-- Settles O48. -/
theorem popReadsTheStack : Obligations.PopReadsTheStack :=
  ⟨popForm (fun _ => nofun) (fun _ => rfl), popForm (fun _ => nofun) (fun _ => rfl)⟩

/-! ## IN and OUT (R148) -/

theorem getLsbD_joinWord (hi lo : Byte) (k : Nat) :
    (joinWord hi lo).getLsbD k = if k < 8 then lo.getLsbD k else hi.getLsbD (k - 8) := by
  rw [joinWord, BitVec.getLsbD_append]

theorem getLsbD_joinAddr (bank : Byte) (seg : Word) (k : Nat) :
    (joinAddr bank seg).getLsbD k = if k < 16 then seg.getLsbD k else bank.getLsbD (k - 16) := by
  rw [joinAddr, BitVec.getLsbD_append]

/-- The scratch register with the port in its low byte (R148). -/
theorem latchPort_scr (port : Byte) (s : State) : (latchPort port s).scr = s.scr &&& 0xFFFF00 ||| port.setWidth 24 := by
  have mask : ∀ k : Fin 24, (0xFFFF00 : Addr).getLsbD k = decide (8 ≤ k.val) := by decide
  show joinAddr (bankOf s.scr) (joinWord (hiByte (segOf s.scr)) port) = _
  refine BitVec.eq_of_getLsbD_eq fun k hk => ?_
  have hmask : (0xFFFF00 : Addr).getLsbD k = decide (8 ≤ k) := mask ⟨k, hk⟩
  rw [getLsbD_joinAddr, getLsbD_joinWord, BitVec.getLsbD_or, BitVec.getLsbD_and, hmask, BitVec.getLsbD_setWidth]
  by_cases h8 : k < 8
  · have h16 : k < 16 := by omega
    simp [h16, h8, hk]
  · have h8' : 8 ≤ k := by omega
    by_cases h16 : k < 16
    · have hbit : k - 8 < 8 ∧ 8 + (k - 8) = k := by omega
      simp [h16, h8, h8', hiByte, segOf, hbit]
    · have hbit : k - 16 < 8 ∧ 16 + (k - 16) = k := by omega
      simp [h16, h8', bankOf, hbit]

/-- After a cycle that left `u` and whose IO read is answered with `b` (R122). -/
def ioAnswered (u : State) (b : Byte) : State := { u with cyc := u.cyc + 1, ioData := b }

/-- After a cycle that left `u` and whose IO write is accepted (R122). -/
def ioWrote (u : State) (log : List Accepted) : State := { u with cyc := u.cyc + 1, accepted := log ++ u.accepted }

/-- After a cycle that left `u` and whose transaction ends in the fault (R431). -/
def stopped (u : State) (f : FaultReg) : State := { u with cyc := u.cyc + 1, fault := some f }

section

variable {i : Instr} {s : State} {r1 : Selector} {port : State → Byte} {p : Byte}

theorem exec_stops {request : Action} {rest : List Action} {e : Fault} (hschedule : schedule i = request :: rest)
    (h : tick request s = .fault e) : exec i s = .fault e :=
  exec_of_schedule hschedule (by rw [runCycles_cons, h, andThen_fault])

/-- A port transaction that faults leaves what its request did not touch (R431). -/
theorem faultKeeps_latchPort (hs : Ready s) (hsole : SoleWriter s) (p : Byte) (f : FaultReg) :
    FaultKeeps s (stopped (latchPort p (begun s)) f) := by
  refine ⟨⟨?_, ?_, ?_, keepsMemory_of_mem ?_ (begun_mem hsole), ?_, ?_, ?_, ?_, begun_istat_of_ne⟩, ?_⟩
  all_goals simp [stopped, latchPort, hs.2]

theorem completes_in {b : Byte} (hne : i ≠ .hlt)
    (hschedule : schedule i = [fun s => inRequest (port s) s, inFinish r1]) (hs : Ready s) (hport : port (begun s) = p)
    (hread : ioReadResult s.cfg (linesAt s 1) p = .ok b) : Completes i s fun t => InEffect s t r1 p b := by
  subst hport
  have hin : tick (fun s => inRequest (port s) s) s = .next (ioAnswered (inRequest (port (begun s)) (begun s)) b) :=
    tick_ioRead hs.1 rfl (by simpa [inRequest, latchPort, ioRead] using hs.1) rfl rfl rfl
      (by simpa [inRequest, latchPort, ioRead, linesAt_one] using hread)
  have hscr := latchPort_scr (port (begun s)) (begun s)
  rw [begun_scr] at hscr
  generalize hu : ioAnswered (inRequest (port (begun s)) (begun s)) b = u at hin
  have hrun := exec_pair (effect := fun s => writeSel r1 (s.ioData.setWidth 16) s) hschedule hin
    (by simpa [← hu, ioAnswered, inRequest, latchPort, ioRead] using hs.1)
  refine ⟨_, hrun, effect_of_exec hne hs hrun ?_ ?_ ?_ ?_ ?_, noStore_of_exec hrun ?_ fun hsole => ?_, ?_, ?_, ?_, ?_⟩
  case refine_7 =>
    rw [finished_mem, writeSel_mem, begun_mem (by simpa [← hu, ioAnswered, inRequest, latchPort, ioRead] using hsole), ← hu]
    exact begun_mem hsole
  case refine_5 => simpa [finished, ← hu, ioAnswered, inRequest, ioRead] using hscr
  all_goals simp [finished, ← hu, ioAnswered, inRequest, latchPort, ioRead, regsWith, KeepsBusPorts]

theorem faults_in {f : FaultReg} (hschedule : schedule i = [fun s => inRequest (port s) s, inFinish r1]) (hs : Ready s)
    (hsole : SoleWriter s) (hport : port (begun s) = p) (hread : ioReadResult s.cfg (linesAt s 1) p = .error f) :
    FaultsWith (exec i s) f fun t => FaultKeeps s t ∧ t.sp = s.sp := by
  subst hport
  have hin : tick (fun s => inRequest (port s) s) s =
      .fault (faultOf f (stopped (inRequest (port (begun s)) (begun s)) f)) :=
    tick_ioRead_fault hs.1 rfl (by simpa [inRequest, latchPort, ioRead] using hs.1) rfl rfl rfl
      (by simpa [inRequest, latchPort, ioRead, linesAt_one] using hread)
  exact ⟨_, exec_stops hschedule hin, rfl, faultKeeps_latchPort hs hsole (port (begun s)) f, begun_sp s⟩

theorem completes_out {log : List Accepted} (hne : i ≠ .hlt)
    (hschedule : schedule i = [fun s => outRequest r1 (port s) s, finish]) (hs : Ready s) (hport : port (begun s) = p)
    (hwrite : ioWriteResult s.cfg (linesAt s 1) p (loByte (readSel s r1)) = .ok log) :
    Completes i s fun t => OutEffect s t r1 p log := by
  subst hport
  have hout : tick (fun s => outRequest r1 (port s) s) s =
      .next (ioWrote (outRequest r1 (port (begun s)) (begun s)) log) :=
    tick_ioWrite hs.1 rfl (by simpa [outRequest, latchPort, ioWrite] using hs.1) rfl rfl rfl
      (by simpa [outRequest, latchPort, ioWrite, readSel, linesAt_one] using hwrite)
  have hscr := latchPort_scr (port (begun s)) (begun s)
  rw [begun_scr] at hscr
  generalize hu : ioWrote (outRequest r1 (port (begun s)) (begun s)) log = u at hout
  have hrun := exec_pair (effect := fun s => s) hschedule hout
    (by simpa [← hu, ioWrote, outRequest, latchPort, ioWrite] using hs.1)
  refine ⟨_, hrun, effect_of_exec hne hs hrun ?_ ?_ ?_ ?_ ?_,
    fun hsole => keepsMemory_of_mem (exec_keepsEngine hrun).1 ?_, ?_, ?_, ?_, ?_, ?_⟩
  case refine_6 =>
    rw [finished_mem, begun_mem (by simpa [← hu, ioWrote, outRequest, latchPort, ioWrite] using hsole), ← hu]
    exact begun_mem hsole
  case refine_5 => simpa [finished, ← hu, ioWrote, outRequest, ioWrite] using hscr
  all_goals simp [finished, ← hu, ioWrote, outRequest, latchPort, ioWrite, readSel, KeepsBusPorts]

theorem faults_out {f : FaultReg} (hschedule : schedule i = [fun s => outRequest r1 (port s) s, finish]) (hs : Ready s)
    (hsole : SoleWriter s) (hport : port (begun s) = p)
    (hwrite : ioWriteResult s.cfg (linesAt s 1) p (loByte (readSel s r1)) = .error f) :
    FaultsWith (exec i s) f fun t => FaultKeeps s t ∧ t.sp = s.sp := by
  subst hport
  have hout : tick (fun s => outRequest r1 (port s) s) s =
      .fault (faultOf f (stopped (outRequest r1 (port (begun s)) (begun s)) f)) :=
    tick_ioWrite_fault hs.1 rfl (by simpa [outRequest, latchPort, ioWrite] using hs.1) rfl rfl rfl
      (by simpa [outRequest, latchPort, ioWrite, readSel, linesAt_one] using hwrite)
  exact ⟨_, exec_stops hschedule hout, rfl, faultKeeps_latchPort hs hsole (port (begun s)) f, begun_sp s⟩

end

theorem portOf_begun (s : State) (r2 : Selector) : portOf (begun s) r2 = loByte (readSel s r2) := by simp [portOf]

/-- Settles O57: the port is the literal, or what R2 holds before R1 is written. -/
theorem inputReadsThePort : Obligations.InputReadsThePort := by
  intro s r1 hs
  refine ⟨fun port b => ?_, fun r2 b => ?_, fun port f hsole => ?_, fun r2 f hsole => ?_⟩
  · exact completes_in (port := fun _ => port) nofun rfl hs rfl
  · exact completes_in (port := fun s => portOf s r2) nofun rfl hs (portOf_begun s r2)
  · exact faults_in (port := fun _ => port) rfl hs hsole rfl
  · exact faults_in (port := fun s => portOf s r2) rfl hs hsole (portOf_begun s r2)

/-- Settles O58. -/
theorem outputWritesThePort : Obligations.OutputWritesThePort := by
  intro s r1 hs
  refine ⟨fun port log => ?_, fun r2 log => ?_, fun port f hsole => ?_, fun r2 f hsole => ?_⟩
  · exact completes_out (port := fun _ => port) nofun rfl hs rfl
  · exact completes_out (port := fun s => portOf s r2) nofun rfl hs (portOf_begun s r2)
  · exact faults_out (port := fun _ => port) rfl hs hsole rfl
  · exact faults_out (port := fun s => portOf s r2) rfl hs hsole (portOf_begun s r2)

end Sys2Proof.Proofs
end

section
/-! PROOFS. JSR, RTS and RTI: the pushes and pops of a return address byte by byte (spec 10_state.md R31, 40_engine.md R147, R149, 47_control.md R322 to R324). -/

namespace Sys2Proof.Proofs

open Sys2Proof.Machine Sys2Proof.Laws

/-! ## A byte on the stack (R31) -/

/-- What `n` cycles of an instruction leave that move bytes to and from the stack: the stack pointer, the scratch register,
memory and the accepted writes as given, the rest of what the instruction uses as before it. -/
structure Underway (n : Nat) (s t : State) (sp : Word) (scr : Addr) (m : Memory) (log : List Accepted) : Prop where
  fault : t.fault = none
  cfg : t.cfg = s.cfg
  regs : t.regs = s.regs
  flags : t.flags = s.flags
  pc : t.pc = s.pc
  ioPorts : KeepsIoPorts s t
  lines : ∀ k, linesAt t k = linesAt s (n + k)
  sp : t.sp = sp
  scr : t.scr = scr
  mem : t.mem = m
  accepted : t.accepted = log

section

variable {n : Nat} {s t : State} {sp : Word} {scr scr' : Addr} {m m' : Memory} {log l : List Accepted} {act : Action}

theorem Underway.start (hs : s.fault = none) : Underway 0 s s s.sp s.scr s.mem s.accepted :=
  ⟨hs, rfl, rfl, rfl, rfl, ⟨rfl, rfl, rfl⟩, fun k => by rw [Nat.zero_add], rfl, rfl, rfl, rfl⟩

theorem Underway.soleWriter (h : Underway n s t sp scr m log) (hsole : SoleWriter s) : SoleWriter t := by
  rw [SoleWriter, h.cfg, hsole]

theorem Underway.next_lines {u : State} (h : Underway n s t sp scr m log) (hact : Quiet act)
    (htick : tick act t = .next u) (k : Nat) : linesAt u k = linesAt s (n + 1 + k) := by
  rw [linesAt_of_tick hact htick, h.lines, Nat.add_assoc, Nat.add_comm 1 k]

/-- The next byte pushed. -/
theorem Underway.push {b : Byte} (h : Underway n s t sp scr m log) (hsole : SoleWriter s) (hquiet : Quiet act)
    (hact : act (begun t) = pushByte b { begun t with scr := scr' })
    (hw : memWrite s.cfg m (linesAt s (n + 1)) (stackByte s sp) false (b.setWidth 16) = .ok (m', l)) :
    ∃ u, tick act t = .next u ∧ Underway (n + 1) s u (sp + 1) scr' m' (l ++ log) := by
  have htick : tick act t = .next (wrote (pushByte b { begun t with scr := scr' }) m' l) := by
    refine tick_write h.fault hact (by simpa using h.fault) rfl rfl rfl ?_
    rw [← h.lines, linesAt_one, ← h.mem, ← h.sp] at hw
    simpa [begun_mem (h.soleWriter hsole), stackAddr, stackByte, loByte_setWidth, h.cfg] using hw
  refine ⟨_, htick, ?_, ?_, ?_, ?_, ?_, keepsIoPorts_trans h.ioPorts ?_, h.next_lines hquiet htick, ?_, rfl, rfl, ?_⟩
  all_goals simp [wrote, KeepsIoPorts, h.fault, h.cfg, h.regs, h.flags, h.pc, h.sp, h.accepted]

/-- The next byte popped. -/
theorem Underway.pop {v : Word} (h : Underway n s t sp scr m log) (hsole : SoleWriter s) (hquiet : Quiet act)
    (hact : act (begun t) = popByte { begun t with scr := scr' })
    (hr : memRead s.cfg m (linesAt s (n + 1)) (stackByte s (sp - 1)) false = .ok v) :
    ∃ u, tick act t = .next u ∧ Underway (n + 1) s u (sp - 1) scr' m log ∧ u.data = v := by
  have htick : tick act t = .next (answered (popByte { begun t with scr := scr' }) v) := by
    refine tick_read h.fault hact (by simpa using h.fault) rfl rfl rfl ?_
    rw [← h.lines, linesAt_one, ← h.mem, ← h.sp] at hr
    simpa [begun_mem (h.soleWriter hsole), stackByte, h.cfg] using hr
  have hmem : (begun t).mem = m := (begun_mem (h.soleWriter hsole)).trans h.mem
  refine ⟨_, htick, ⟨?_, ?_, ?_, ?_, ?_, keepsIoPorts_trans h.ioPorts ?_, h.next_lines hquiet htick, ?_, rfl, hmem, ?_⟩, rfl⟩
  all_goals simp [answered, KeepsIoPorts, h.fault, h.cfg, h.regs, h.flags, h.pc, h.sp, h.accepted]

end

/-! ## Memory under a run of pushes (R31, R80) -/

theorem stackByte_inj {s : State} {x y : Word} : stackByte s x = stackByte s y ↔ x = y := by
  refine ⟨fun h => ?_, fun h => h ▸ rfl⟩
  rw [← segOf_joinAddr s.cfg.stackPage x, ← segOf_joinAddr s.cfg.stackPage y]
  exact congrArg segOf h

theorem offset_succ (off : Word) (k : Nat) : off + 1 + BitVec.ofNat 16 k = off + BitVec.ofNat 16 (k + 1) := by
  rw [Nat.add_comm k 1, BitVec.ofNat_add, BitVec.add_assoc]
  rfl

section

variable {s : State} {n : Nat} {off : Word} {m m' : Memory} {log log' : List Accepted} {bs : List Byte}

/-- Pushes leave every byte but theirs. -/
theorem readCell_of_bytesPushed (h : BytesPushed s n off m log bs m' log') {a : Addr}
    (ha : ∀ k < bs.length, a ≠ stackByte s (off + BitVec.ofNat 16 k)) :
    readCell s.cfg.platform m' a = readCell s.cfg.platform m a := by
  induction bs generalizing n off m log with
  | nil => rw [h.1]
  | cons b rest ih =>
    obtain ⟨m1, l1, hwrite, hrest⟩ := h
    have hfirst : a ≠ stackByte s off := by simpa using ha 0 (Nat.succ_pos _)
    have hlater : ∀ k < rest.length, a ≠ stackByte s (off + 1 + BitVec.ofNat 16 k) := fun k hk => by
      rw [offset_succ]
      exact ha (k + 1) (Nat.succ_lt_succ hk)
    rw [ih hrest hlater, readCell_of_memWrite hwrite (by simpa using hfirst)]

/-- As long as the pushes do not wrap onto their own bytes, each byte is read back where it was pushed. -/
theorem readCell_pushed (h : BytesPushed s n off m log bs m' log') (hlength : bs.length ≤ 65536) {k : Nat} {b : Byte}
    (hb : bs[k]? = some b) (hstores : StoresAt s (stackByte s (off + BitVec.ofNat 16 k))) :
    readCell s.cfg.platform m' (stackByte s (off + BitVec.ofNat 16 k)) = some b := by
  induction bs generalizing n off m log k with
  | nil => cases hb
  | cons b' rest ih =>
    obtain ⟨m1, l1, hwrite, hrest⟩ := h
    rw [List.length_cons] at hlength
    cases k with
    | zero =>
      obtain rfl := Option.some.inj hb
      rw [BitVec.add_zero] at hstores ⊢
      obtain ⟨d, hd, hstore⟩ := hstores
      have hother : ∀ k < rest.length, stackByte s off ≠ stackByte s (off + 1 + BitVec.ofNat 16 k) := fun k hk heq => by
        have := stackByte_inj.mp heq
        bv_omega
      rw [readCell_of_bytesPushed hrest hother, memWrite_stored hwrite hd hstore]
      exact (readCell_writeBytes_single ..).trans (by rw [if_pos rfl, loByte_setWidth])
    | succ k =>
      rw [← offset_succ] at hstores ⊢
      exact ih hrest (by omega) hb hstores

end

/-! ## JSR (R147, R322) -/

theorem with_scr {u : State} {a : Addr} (h : u.scr = a) : { u with scr := a } = u := by
  subst h
  rfl

theorem offset_two (off : Word) : off + 1 + 1 = off + 2 := BitVec.add_assoc off 1 1

theorem offset_three (off : Word) : off + 2 + 1 = off + 3 := BitVec.add_assoc off 2 1

section

variable {s : State} {m1 m2 m3 : Memory} {l1 l2 l3 : List Accepted}

/-- The three pushes of JSR; the effective address waits in the scratch register. -/
theorem runCycles_callTemplate (m : AbsOperand) (hs : s.fault = none) (hsole : SoleWriter s)
    (hw1 : memWrite s.cfg s.mem (linesAt s 1) (stackByte s s.sp) false ((bankOf s.pc).setWidth 16) = .ok (m1, l1))
    (hw2 : memWrite s.cfg m1 (linesAt s 2) (stackByte s (s.sp + 1)) false ((hiByte (segOf s.pc)).setWidth 16) = .ok (m2, l2))
    (hw3 : memWrite s.cfg m2 (linesAt s 3) (stackByte s (s.sp + 2)) false ((loByte (segOf s.pc)).setWidth 16) = .ok (m3, l3)) :
    ∃ t, runCycles (callTemplate m) s = runCycles [fun s => finish { s with pc := s.scr }] t ∧
      Underway 3 s t (s.sp + 3) (effectiveAddr s m) m3 (l3 ++ (l2 ++ (l1 ++ s.accepted))) := by
  have hquiet (act : Action) (hact : act ∈ callTemplate m) : Quiet act := (plain_call m act hact).toQuiet
  obtain ⟨t1, htick1, h1⟩ := (Underway.start hs).push hsole (scr' := effectiveAddr s m)
    (act := fun s => pushByte (bankOf (resolveAddr m s).pc) (resolveAddr m s)) (hquiet _ (by simp [callTemplate]))
    (by simp [resolveAddr]) hw1
  obtain ⟨t2, htick2, h2⟩ := h1.push hsole (scr' := effectiveAddr s m) (b := hiByte (segOf s.pc))
    (act := fun s => pushByte (hiByte (segOf s.pc)) s) (hquiet _ (by simp [callTemplate]))
    (by rw [with_scr ((begun_scr t1).trans h1.scr), begun_pc, h1.pc]) hw2
  rw [offset_two] at h2
  obtain ⟨t3, htick3, h3⟩ := h2.push hsole (scr' := effectiveAddr s m) (b := loByte (segOf s.pc))
    (act := fun s => pushByte (loByte (segOf s.pc)) s) (hquiet _ (by simp [callTemplate]))
    (by rw [with_scr ((begun_scr t2).trans h2.scr), begun_pc, h2.pc]) hw3
  rw [offset_three] at h3
  refine ⟨t3, ?_, h3⟩
  exact (runCycles_cons_of_tick htick1 _).trans ((runCycles_cons_of_tick htick2 _).trans (runCycles_cons_of_tick htick3 _))

theorem bytesPushed_call
    (hw1 : memWrite s.cfg s.mem (linesAt s 1) (stackByte s s.sp) false ((bankOf s.pc).setWidth 16) = .ok (m1, l1))
    (hw2 : memWrite s.cfg m1 (linesAt s 2) (stackByte s (s.sp + 1)) false ((hiByte (segOf s.pc)).setWidth 16) = .ok (m2, l2))
    (hw3 : memWrite s.cfg m2 (linesAt s 3) (stackByte s (s.sp + 2)) false ((loByte (segOf s.pc)).setWidth 16) = .ok (m3, l3)) :
    BytesPushed s 1 s.sp s.mem s.accepted [bankOf s.pc, hiByte (segOf s.pc), loByte (segOf s.pc)] m3
      (l3 ++ (l2 ++ (l1 ++ s.accepted))) :=
  ⟨m1, l1, hw1, m2, l2, hw2, m3, l3, by rw [offset_two]; exact hw3, rfl, rfl⟩

end

theorem stackByte_mem_of_lt_three (s : State) {k : Nat} (hk : k < 3) : stackByte s (s.sp + BitVec.ofNat 16 k) ∈
    [stackByte s s.sp, stackByte s (s.sp + 1), stackByte s (s.sp + 2)] := by
  match k, hk with
  | 0, _ | 1, _ | 2, _ => simp

/-- Settles O51: the three pushes, then the jump; memory is that of the pushes. -/
theorem callPushesReturnAddress : Obligations.CallPushesReturnAddress := by
  intro s m m1 m2 m3 l1 l2 l3 hs hsole stack hw1 hw2 hw3
  obtain ⟨t, hpushes, ht⟩ := runCycles_callTemplate m hs.1 hsole hw1 hw2 hw3
  have hfinish := tick_finish (effect := fun s => { s with pc := s.scr }) ht.fault (by simpa using ht.fault)
  have hrun : exec (.jsr m) s = .next _ := exec_of_schedule rfl (hpushes.trans (runCycles_single hfinish))
  have hcfg := (exec_keepsEngine hrun).1
  have hmem : (finished { begun t with pc := (begun t).scr }).mem = m3 :=
    (begun_mem (ht.soleWriter hsole)).trans ht.mem
  have hbytes := bytesPushed_call hw1 hw2 hw3
  refine ⟨_, hrun, effect_of_exec (i := .jsr m) nofun hs hrun ?_ ?_ ?_ ?_ ?_, ?_, hmem, ?_, fun a ha => ?_, fun hstores => ?_⟩
  case refine_6 => exact keepsIoPorts_trans ht.ioPorts (by simp [finished, KeepsIoPorts])
  case refine_8 =>
    rw [readByte, readByte, hcfg, hmem]
    refine readCell_of_bytesPushed hbytes fun k hk heq => ha ?_
    rw [heq]
    exact stackByte_mem_of_lt_three s hk
  case refine_9 =>
    have pushed {k : Nat} {b : Byte} (hk : k < 3)
        (hb : [bankOf s.pc, hiByte (segOf s.pc), loByte (segOf s.pc)][k]? = some b) :
        readCell s.cfg.platform m3 (stackByte s (s.sp + BitVec.ofNat 16 k)) = some b :=
      readCell_pushed hbytes (by simp) hb (hstores _ (stackByte_mem_of_lt_three s hk))
    have hbank := pushed (k := 0) (by decide) rfl
    rw [BitVec.add_zero] at hbank
    simp only [stack, List.map_cons, List.map_nil, readByte, hcfg, hmem, List.cons.injEq, and_true]
    exact ⟨hbank, pushed (k := 1) (by decide) rfl, pushed (k := 2) (by decide) rfl⟩
  all_goals simp [finished, ht.regs, ht.flags, ht.sp, ht.scr, ht.accepted]

/-! ## RTS and RTI (R149, R323, R324) -/

section

variable {s : State} {lo hi bank : Byte}

/-- The three pops of a return address. -/
theorem runCycles_returnPops (hs : s.fault = none) (hsole : SoleWriter s)
    (hr1 : memRead s.cfg s.mem (linesAt s 1) (stackByte s (s.sp - 1)) false = .ok (lo.setWidth 16))
    (hr2 : memRead s.cfg s.mem (linesAt s 2) (stackByte s (s.sp - 2)) false = .ok (hi.setWidth 16))
    (hr3 : memRead s.cfg s.mem (linesAt s 3) (stackByte s (s.sp - 3)) false = .ok (bank.setWidth 16)) :
    ∃ t scr, runCycles returnPops s = .next t ∧ Underway 3 s t (s.sp - 3) scr s.mem s.accepted ∧
      returnTarget (begun t) = joinAddr bank (joinWord hi lo) := by
  have hquiet (act : Action) (hact : act ∈ returnPops) : Quiet act := (plain_pops act hact).toQuiet
  obtain ⟨t1, htick1, h1, hdata1⟩ := (Underway.start hs).pop hsole (scr' := s.scr) (act := fun s => popByte s)
    (hquiet _ (by simp [returnPops])) (by rw [with_scr (begun_scr s)]) hr1
  have hsp2 : s.sp - 1 - 1 = s.sp - 2 := by bv_omega
  obtain ⟨t2, htick2, h2, hdata2⟩ := h1.pop hsole
    (scr' := joinAddr (bankOf s.scr) (joinWord (hiByte (segOf s.scr)) lo))
    (act := fun s => popByte { s with scr := joinAddr (bankOf s.scr) (joinWord (hiByte (segOf s.scr)) (loByte s.data)) })
    (hquiet _ (by simp [returnPops])) (by simp [h1.scr, hdata1, loByte_setWidth]) (by rw [hsp2]; exact hr2)
  have hsp3 : s.sp - 1 - 1 - 1 = s.sp - 3 := by bv_omega
  obtain ⟨t3, htick3, h3, hdata3⟩ := h2.pop hsole (scr' := joinAddr (bankOf s.scr) (joinWord hi lo))
    (act := fun s => popByte { s with scr := joinAddr (bankOf s.scr) (joinWord (loByte s.data) (loByte (segOf s.scr))) })
    (hquiet _ (by simp [returnPops]))
    (by simp [h2.scr, hdata2, loByte_setWidth, bankOf_joinAddr, segOf_joinAddr, loByte_joinWord])
    (by rw [hsp3]; exact hr3)
  rw [hsp3] at h3
  refine ⟨t3, _, ?_, h3, ?_⟩
  · exact (runCycles_cons_of_tick htick1 _).trans ((runCycles_cons_of_tick htick2 _).trans (runCycles_single htick3))
  · rw [returnTarget, begun_data, begun_scr, hdata3, h3.scr, loByte_setWidth, segOf_joinAddr]

end

/-- Settles O52. -/
theorem returnFromSubroutine : Obligations.ReturnFromSubroutine := by
  intro s lo hi bank hs hsole hr1 hr2 hr3
  obtain ⟨t, scr, hpops, ht, htarget⟩ := runCycles_returnPops hs.1 hsole hr1 hr2 hr3
  have hfinish := tick_finish (effect := fun s => { s with scr := returnTarget s, pc := returnTarget s }) ht.fault
    (by simpa using ht.fault)
  have hrun : exec .rts s = .next _ := exec_of_schedule (i := .rts) rfl
    ((runCycles_append _ _ s).trans (by rw [hpops, andThen_next]; exact runCycles_single hfinish))
  refine ⟨_, hrun, effect_of_exec (i := .rts) nofun hs hrun ?_ ?_ ?_ ?_ ?_, noStore_of_exec hrun ?_ fun _ => ?_, ?_⟩
  case refine_7 => exact (begun_mem (ht.soleWriter hsole)).trans ht.mem
  case refine_8 => exact keepsIoPorts_trans ht.ioPorts (by simp [finished, KeepsIoPorts])
  all_goals simp [finished, ht.regs, ht.flags, ht.sp, ht.accepted, htarget]

/-- Settles O53. -/
theorem returnFromInterrupt : Obligations.ReturnFromInterrupt := by
  intro s lo hi bank fl hs hsole hr1 hr2 hr3 hr4
  obtain ⟨t, scr, hpops, ht, htarget⟩ := runCycles_returnPops hs.1 hsole hr1 hr2 hr3
  have hsp : s.sp - 3 - 1 = s.sp - 4 := by bv_omega
  obtain ⟨u, htick, hu, hdata⟩ := ht.pop hsole (scr' := joinAddr bank (joinWord hi lo))
    (act := fun s => popByte { s with scr := returnTarget s })
    ((plain_returnFromInterrupt _ (by simp [Machine.returnFromInterrupt])).toQuiet) (by simp [htarget]) (by rw [hsp]; exact hr4)
  rw [hsp] at hu
  have hfinish := tick_finish
    (effect := fun s => { s with flags := unpackFlags s.cfg.flagLayout (loByte s.data), pc := s.scr }) hu.fault
    (by simpa using hu.fault)
  have hrun : exec .rti s = .next _ := exec_of_schedule (i := .rti) rfl
    ((runCycles_append _ _ s).trans (by
      rw [hpops, andThen_next]
      exact (runCycles_cons_of_tick htick _).trans (runCycles_single hfinish)))
  refine ⟨_, hrun, effect_of_exec (i := .rti) nofun hs hrun ?_ ?_ ?_ ?_ ?_, noStore_of_exec hrun ?_ fun _ => ?_, ?_⟩
  case refine_7 => exact (begun_mem (hu.soleWriter hsole)).trans hu.mem
  case refine_8 => exact keepsIoPorts_trans hu.ioPorts (by simp [finished, KeepsIoPorts])
  all_goals simp [finished, hu.cfg, hu.regs, hu.sp, hu.scr, hu.accepted, hdata, loByte_setWidth]

end Sys2Proof.Proofs
end

section
/-! PROOFS. The ALU-class instructions, an operation on registers, a literal or a byte or word of memory (spec 40_engine.md R141, R142, R144), and the arithmetic operations by their rules (41_arithmetic.md R200 to R208). -/

namespace Sys2Proof.Proofs

open Sys2Proof.Machine Sys2Proof.Laws

/-! ## The last cycle of an ALU-class instruction (R141) -/

/-- The result goes to R1, the flags become those of the operation, nothing else changes. -/
theorem applyOut_eq {w : Nat} (r1 : Selector) (out : AluOut w) (s : State) :
    applyOut r1 out s = { s with regs := regsAfter s r1 out.result, flags := out.flags } := by
  obtain ⟨result, flags⟩ := out
  cases result <;> rfl

@[simp] theorem operand_begun (w : Nat) (s : State) (sel : Selector) :
    operand w (begun s) sel = (readSel s sel).setWidth w := by
  rw [operand, readSel_begun]

@[simp] theorem regsAfter_begun {w : Nat} (s : State) (r1 : Selector) (r : Option (BitVec w)) :
    regsAfter (begun s) r1 r = regsAfter s r1 r := by
  cases r <;> simp [regsAfter, regsWith]

/-- Only HLT ends in Halt (R126). -/
theorem ne_hlt_of_finished {i : Instr} {s u : State} (hs : Ready s) (h : exec i s = .next (finished u))
    (hu : u.phase = .execute) : i ≠ .hlt := by
  rintro rfl
  have hhalt : (finished u).phase = .halt := (finishChoosesNextState .hlt s _ hs h).1
  have hphase : (finished u).phase = if u.istat ≠ .none then .interrupt else .fetch := by simp [finished, hu]
  rw [hphase] at hhalt
  split at hhalt <;> cases hhalt

section

variable {i : Instr} {s : State} {w : Nat} {r1 : Selector}

/-- An instruction of one cycle, which applies the operation's outcome `out` (R141, R144). -/
theorem completes_alu {out : State → AluOut w} (hs : Ready s)
    (hschedule : schedule i = [fun u => finish (applyOut r1 (out u) u)]) :
    Completes i s fun t =>
      Effect s t (regsAfter s r1 (out (begun s)).result) (out (begun s)).flags s.pc s.sp s.scr ∧ NoStore s t ∧
        KeepsBusPorts s t ∧ KeepsIoPorts s t := by
  have htick := tick_finish (effect := fun u => applyOut r1 (out u) u) hs.1 (by simpa [applyOut_eq] using hs.1)
  have hrun := exec_of_schedule hschedule (runCycles_single htick)
  have hne : i ≠ .hlt := ne_hlt_of_finished hs hrun (by simpa [applyOut_eq] using hs.2)
  refine ⟨_, hrun, effect_of_exec hne hs hrun ?_ ?_ ?_ ?_ ?_, noStore_of_exec hrun ?_ fun hsole => ?_, ?_, ?_⟩
  case refine_7 => simpa [finished_mem, applyOut_eq] using begun_mem hsole
  all_goals simp [finished, applyOut_eq, KeepsBusPorts, KeepsIoPorts]

/-- A read at the effective address, then the cycle that applies the operation to what was read (R142). -/
theorem completes_load {op : AluOp w} {wide : Bool} {m : AbsOperand} {v : Word} (hs : Ready s) (hsole : SoleWriter s)
    (hschedule : schedule i = [loadRequest wide m, loadFinish w op r1])
    (hread : memRead s.cfg s.mem (linesAt s 1) (effectiveAddr s m) wide = .ok v) :
    Completes i s fun t =>
      let out := op s.flags ((readSel s r1).setWidth w) (v.setWidth w)
      Effect s t (regsAfter s r1 out.result) out.flags s.pc s.sp (effectiveAddr s m) ∧ NoStore s t ∧ KeepsIoPorts s t ∧
        t.address = effectiveAddr s m ∧ t.rw = false ∧ t.word = wide ∧ t.data = v := by
  have hload : tick (loadRequest wide m) s =
      .next (answered (busRead (effectiveAddr s m) wide { begun s with scr := effectiveAddr s m }) v) :=
    tick_read hs.1 (by simp [loadRequest, resolveAddr]) (by simpa using hs.1) rfl rfl rfl
      (by simpa [begun_mem hsole, linesAt_one] using hread)
  generalize hu : answered (busRead (effectiveAddr s m) wide { begun s with scr := effectiveAddr s m }) v = u at hload
  have husole : SoleWriter u := by simpa [← hu, answered] using hsole
  have hsel : readSel u r1 = readSel s r1 := by simp [← hu, answered, readSel]
  have hregs (r : Option (BitVec w)) : regsAfter u r1 r = regsAfter s r1 r := by
    cases r <;> simp [← hu, answered, regsAfter, regsWith]
  have hflags : u.flags = s.flags := by simp [← hu, answered]
  have hdata : u.data = v := by rw [← hu, answered]
  have hrun := exec_pair (effect := fun u => applyOut r1 (op u.flags (operand w u r1) (u.data.setWidth w)) u)
    hschedule hload (by simpa [← hu, answered, applyOut_eq] using hs.1)
  simp only [applyOut_eq, operand_begun, regsAfter_begun, begun_flags, begun_data, hsel, hregs, hflags, hdata] at hrun
  have hne : i ≠ .hlt := ne_hlt_of_finished hs hrun (by simpa [← hu, answered] using hs.2)
  refine ⟨_, hrun, effect_of_exec hne hs hrun ?_ ?_ ?_ ?_ ?_, noStore_of_exec hrun ?_ fun _ => ?_, ?_, ?_, ?_, ?_, ?_⟩
  case refine_7 =>
    rw [finished_mem]
    exact (begun_mem husole).trans (by simpa [← hu, answered] using begun_mem hsole)
  all_goals simp [finished, ← hu, answered, KeepsIoPorts]

end

/-! ## An operation by its rule -/

/-- What a two-operand operation computes, as a rule. -/
def specOf {w : Nat} (op : AluOp w) : AluSpec w := fun f a b => ((op f a b).result, (op f a b).flags)

/-- What a one-operand operation computes, as a rule. -/
def specOf1 {w : Nat} (op : AluOp1 w) : AluSpec1 w := fun f a => ((op f a).result, (op f a).flags)

/-- A mnemonic whose three forms run the templates of R141, R142 and R144 with `op`. -/
theorem twoOperandForms {w : Nat} {imm : Selector → BitVec w → Instr} {reg : Selector → Selector → Instr}
    {abs : Selector → AbsOperand → Instr} {op : AluOp w} {spec : AluSpec w} (hspec : specOf op = spec)
    (himm : ∀ r1 b, schedule (imm r1 b) = [aluFinish w op r1 b])
    (hreg : ∀ r1 r2, schedule (reg r1 r2) = [regCycle w op r1 r2])
    (habs : ∀ r1 m, schedule (abs r1 m) = [loadRequest (w == 16) m, loadFinish w op r1]) :
    TwoOperandForms w imm reg abs spec := by
  subst hspec
  intro s hs
  refine ⟨fun r1 b => ?_, fun r1 r2 => ?_, fun r1 m v hsole hread => completes_load hs hsole (habs r1 m) hread⟩
  · simpa [specOf] using completes_alu (out := fun u => op u.flags (operand w u r1) b) hs (himm r1 b)
  · simpa [specOf] using
      completes_alu (out := fun u => op u.flags (operand w u r1) (operand w u r2)) hs (hreg r1 r2)

/-- A mnemonic whose Register form runs the template of R144 with `op`. -/
theorem oneOperandForm {w : Nat} {reg : Selector → Instr} {op : AluOp1 w} {spec : AluSpec1 w} (hspec : specOf1 op = spec)
    (hreg : ∀ r1, schedule (reg r1) = [regCycle1 w op r1]) : OneOperandForm w reg spec := by
  subst hspec
  intro s hs r1
  simpa [specOf1] using completes_alu (out := fun u => op u.flags (operand w u r1)) hs (hreg r1)

/-! ## The arithmetic operations by their rules (R200 to R208) -/

section

variable {w : Nat}

theorem ofNat_toNat_add (a : BitVec w) (n : Nat) : BitVec.ofNat w (a.toNat + n) = a + BitVec.ofNat w n := by
  rw [BitVec.ofNat_add, BitVec.ofNat_toNat, BitVec.setWidth_eq]

theorem ofInt_sub (x y : Int) : BitVec.ofInt w (x - y) = BitVec.ofInt w x - BitVec.ofInt w y := by
  rw [Int.sub_eq_add_neg, BitVec.ofInt_add, BitVec.ofInt_neg, BitVec.sub_eq_add_neg]

theorem ofInt_toNat (a : BitVec w) : BitVec.ofInt w a.toNat = a := by
  rw [BitVec.ofInt_natCast, BitVec.ofNat_toNat, BitVec.setWidth_eq]

theorem overflowAdd_eq (a b r : BitVec w) :
    overflowAdd a b r = decide (a.getMsbD 0 = b.getMsbD 0 ∧ r.getMsbD 0 ≠ a.getMsbD 0) := by
  simp [overflowAdd, BitVec.msb, bne, beq_eq_decide]

theorem overflowSub_eq (a b r : BitVec w) :
    overflowSub a b r = decide (a.getMsbD 0 ≠ b.getMsbD 0 ∧ r.getMsbD 0 ≠ a.getMsbD 0) := by
  simp [overflowSub, BitVec.msb, bne, beq_eq_decide]

theorem specOf_aluAdd : specOf (aluAdd (w := w)) = ruleAdd := by
  funext f a b
  have hr : BitVec.ofNat w (a.toNat + b.toNat) = a + b := by
    rw [ofNat_toNat_add, BitVec.ofNat_toNat, BitVec.setWidth_eq]
  simp only [ruleAdd, hr, ← overflowAdd_eq]
  rfl

theorem specOf_aluSub : specOf (aluSub (w := w)) = ruleSub := by
  funext f a b
  have hr : BitVec.ofInt w ((a.toNat : Int) - b.toNat) = a - b := by
    rw [ofInt_sub, ofInt_toNat, ofInt_toNat]
  simp only [ruleSub, hr, ← overflowSub_eq]
  rfl

theorem specOf1_aluInc : specOf1 (aluInc (w := w)) = ruleInc := by
  funext f a
  rw [ruleInc, ofNat_toNat_add]
  rfl

theorem specOf1_aluDec : specOf1 (aluDec (w := w)) = ruleDec := by
  funext f a
  have hr : BitVec.ofInt w ((a.toNat : Int) - 1) = a - 1#w := by
    rw [ofInt_sub, ofInt_toNat]
    rfl
  rw [ruleDec, hr]
  rfl

end

/-- Settles O40: the cycles of each form run `aluAdd` or `aluSub`, which compute what the rules say. -/
theorem addAndSubtract : Obligations.AddAndSubtract :=
  ⟨twoOperandForms specOf_aluAdd (fun _ _ => rfl) (fun _ _ => rfl) (fun _ _ => rfl),
    twoOperandForms specOf_aluAdd (fun _ _ => rfl) (fun _ _ => rfl) (fun _ _ => rfl),
    twoOperandForms specOf_aluSub (fun _ _ => rfl) (fun _ _ => rfl) (fun _ _ => rfl),
    twoOperandForms specOf_aluSub (fun _ _ => rfl) (fun _ _ => rfl) (fun _ _ => rfl)⟩

/-- Settles O41: `aluInc` and `aluDec` compute what the rules say. -/
theorem incrementAndDecrementKeepCarry : Obligations.IncrementAndDecrementKeepCarry :=
  ⟨oneOperandForm specOf1_aluInc fun _ => rfl, oneOperandForm specOf1_aluInc fun _ => rfl,
    oneOperandForm specOf1_aluDec fun _ => rfl, oneOperandForm specOf1_aluDec fun _ => rfl⟩

end Sys2Proof.Proofs
end

section
/-! PROOFS. The logic operations by their rules (spec 42_logic.md R220 to R228). -/

namespace Sys2Proof.Proofs

open Sys2Proof.Machine

section

variable {w : Nat}

/-- `ZN(r)` as the operations compute it and as the rules state it: N is the leading bit of r (R200). -/
theorem setZN_eq_withZN (f : Flags) (r : BitVec w) : setZN r f = withZN f r := rfl

/-- The complement on numbers (R227, R228). -/
theorem ofNat_complement (a : BitVec w) : BitVec.ofNat w (2 ^ w - 1 - a.toNat) = ~~~a := by
  rw [← BitVec.toNat_not, BitVec.ofNat_toNat, BitVec.setWidth_eq]

theorem specOf_aluAnd : specOf (aluAnd (w := w)) = ruleAnd := by
  funext f a b
  simp only [specOf, aluAnd, ruleAnd, setZN_eq_withZN]

theorem specOf_aluOr : specOf (aluOr (w := w)) = ruleOr := by
  funext f a b
  simp only [specOf, aluOr, ruleOr, setZN_eq_withZN]

theorem specOf_aluXor : specOf (aluXor (w := w)) = ruleXor := by
  funext f a b
  simp only [specOf, aluXor, ruleXor, setZN_eq_withZN]

theorem specOf1_aluNot : specOf1 (aluNot (w := w)) = ruleNot := by
  funext f a
  simp only [specOf1, aluNot, ruleNot, setZN_eq_withZN, ofNat_complement]

end

/-- Settles O42: the cycles of each form run `aluAnd`, `aluOr`, `aluXor` or `aluNot`, which compute what the rules say. -/
theorem logicOperationsKeepCarry : Obligations.LogicOperationsKeepCarry :=
  ⟨twoOperandForms specOf_aluAnd (fun _ _ => rfl) (fun _ _ => rfl) (fun _ _ => rfl),
    twoOperandForms specOf_aluAnd (fun _ _ => rfl) (fun _ _ => rfl) (fun _ _ => rfl),
    twoOperandForms specOf_aluOr (fun _ _ => rfl) (fun _ _ => rfl) (fun _ _ => rfl),
    twoOperandForms specOf_aluOr (fun _ _ => rfl) (fun _ _ => rfl) (fun _ _ => rfl),
    twoOperandForms specOf_aluXor (fun _ _ => rfl) (fun _ _ => rfl) (fun _ _ => rfl),
    twoOperandForms specOf_aluXor (fun _ _ => rfl) (fun _ _ => rfl) (fun _ _ => rfl),
    oneOperandForm specOf1_aluNot fun _ => rfl, oneOperandForm specOf1_aluNot fun _ => rfl⟩

end Sys2Proof.Proofs
end

section
/-! PROOFS. The shifts and rotates by one bit by their rules (spec 43_shift_rotate.md R240 to R248). -/

namespace Sys2Proof.Proofs

open Sys2Proof.Machine

/-! ## Shifts and rotates on numbers (R240) -/

section

variable {w : Nat}

/-- A shift left by k multiplies by 2^k. -/
theorem ofNat_mul_two_pow (n k : Nat) : BitVec.ofNat w (n * 2 ^ k) = BitVec.ofNat w n <<< k := by
  apply BitVec.eq_of_toNat_eq
  rw [BitVec.toNat_shiftLeft, BitVec.toNat_ofNat, BitVec.toNat_ofNat, Nat.shiftLeft_eq, Nat.mod_mul_mod]

/-- A shift left by one doubles (R241, R242). -/
theorem ofNat_double (a : BitVec w) : BitVec.ofNat w (2 * a.toNat) = a <<< 1 := by
  rw [Nat.mul_comm, ← Nat.pow_one 2, ofNat_mul_two_pow, BitVec.ofNat_toNat, BitVec.setWidth_eq]

/-- A logical shift right by one halves (R243, R244). -/
theorem ofNat_half (a : BitVec w) : BitVec.ofNat w (a.toNat / 2) = a >>> 1 := by
  rw [← pow_one 2, ← Nat.shiftRight_eq_div_pow, ← BitVec.toNat_ushiftRight, BitVec.ofNat_toNat, BitVec.setWidth_eq]

/-- One bit as a word. -/
theorem setWidth_ofBool (b : Bool) : (BitVec.ofBool b).setWidth w = BitVec.ofNat w b.toNat := by
  apply BitVec.eq_of_toNat_eq
  rw [BitVec.toNat_setWidth, BitVec.toNat_ofBool, BitVec.toNat_ofNat]

/-- A shift left leaves bit 0 free for the bit that comes round (R245, R246). -/
theorem shiftLeft_one_or_bit (a : BitVec w) (b : Bool) :
    a <<< 1 ||| (BitVec.ofBool b).setWidth w = a <<< 1 + (BitVec.ofBool b).setWidth w := by
  refine (BitVec.add_eq_or_of_and_eq_zero _ _ (BitVec.eq_of_getLsbD_eq fun k _ => ?_)).symm
  rcases Nat.eq_zero_or_pos k with rfl | hk
  · simp
  · have hout : (BitVec.ofBool b).getLsbD k = false := BitVec.getLsbD_of_ge _ _ hk
    simp [hout]

/-- A shift right leaves bit w-1 free for the bit that comes round (R247, R248). -/
theorem shiftRight_one_or_bit (a : BitVec w) (b : Bool) :
    a >>> 1 ||| (BitVec.ofBool b).setWidth w <<< (w - 1) = a >>> 1 + (BitVec.ofBool b).setWidth w <<< (w - 1) := by
  refine (BitVec.add_eq_or_of_and_eq_zero _ _ (BitVec.eq_of_getLsbD_eq fun k hk => ?_)).symm
  rcases Nat.lt_or_ge k (w - 1) with hlow | htop
  · simp [hlow]
  · have hout : a.getLsbD (1 + k) = false := BitVec.getLsbD_of_ge _ _ (by omega)
    simp [hout]

/-- ROL on numbers (R245, R246). -/
theorem ofNat_rotateLeft (a : BitVec w) (b : Bool) :
    BitVec.ofNat w (2 * a.toNat + b.toNat) = a <<< 1 ||| (BitVec.ofBool b).setWidth w := by
  rw [shiftLeft_one_or_bit, BitVec.ofNat_add, ofNat_double, setWidth_ofBool]

/-- ROR on numbers (R247, R248). -/
theorem ofNat_rotateRight (a : BitVec w) (b : Bool) :
    BitVec.ofNat w (a.toNat / 2 + b.toNat * 2 ^ (w - 1)) =
      a >>> 1 ||| (BitVec.ofBool b).setWidth w <<< (w - 1) := by
  rw [shiftRight_one_or_bit, BitVec.ofNat_add, ofNat_half, ofNat_mul_two_pow, setWidth_ofBool]

/-! ## The operations by their rules (R241 to R248) -/

theorem specOf1_aluShl : specOf1 (aluShl (w := w)) = ruleShl := by
  funext f a
  simp only [specOf1, aluShl, ruleShl, setZN_eq_withZN, ofNat_double, BitVec.msb_eq_getLsbD_last]

theorem specOf1_aluShr : specOf1 (aluShr (w := w)) = ruleShr := by
  funext f a
  simp only [specOf1, aluShr, ruleShr, setZN_eq_withZN, ofNat_half]

theorem specOf1_aluRol : specOf1 (aluRol (w := w)) = ruleRol := by
  funext f a
  simp only [specOf1, aluRol, ruleRol, setZN_eq_withZN, ofNat_rotateLeft, BitVec.msb_eq_getLsbD_last]

theorem specOf1_aluRor : specOf1 (aluRor (w := w)) = ruleRor := by
  funext f a
  simp only [specOf1, aluRor, ruleRor, setZN_eq_withZN, ofNat_rotateRight]

end

/-- Settles O43: the cycle of each form runs `aluShl`, `aluShr`, `aluRol` or `aluRor`, which compute what the rules say. -/
theorem shiftsAndRotatesByOneBit : Obligations.ShiftsAndRotatesByOneBit :=
  ⟨oneOperandForm specOf1_aluShl fun _ => rfl, oneOperandForm specOf1_aluShl fun _ => rfl,
    oneOperandForm specOf1_aluShr fun _ => rfl, oneOperandForm specOf1_aluShr fun _ => rfl,
    oneOperandForm specOf1_aluRol fun _ => rfl, oneOperandForm specOf1_aluRol fun _ => rfl,
    oneOperandForm specOf1_aluRor fun _ => rfl, oneOperandForm specOf1_aluRor fun _ => rfl⟩

end Sys2Proof.Proofs
end

section
/-! PROOFS. The compare operation by its rule (spec 44_compare.md R260 to R262). -/

namespace Sys2Proof.Proofs

open Sys2Proof.Machine

section

variable {w : Nat}

/-- The operation is its rule: the same comparisons, no result (R261, R262). -/
theorem specOf_aluCmp : specOf (aluCmp (w := w)) = ruleCmp := rfl

/-- Exactly one of Z, LT, GT is 1 (R260), by the order of the operands as numbers. -/
theorem ruleCmp_flags_exactly_one (f : Flags) (a b : BitVec w) :
    [(ruleCmp f a b).2.z, (ruleCmp f a b).2.lt, (ruleCmp f a b).2.gt].count true = 1 := by
  rcases Nat.lt_trichotomy a.toNat b.toNat with hlt | heq | hgt
  · have hne : a ≠ b := fun h => hlt.ne (congrArg BitVec.toNat h)
    simp [ruleCmp, hlt, hlt.not_gt, hne]
  · have hab : a = b := BitVec.eq_of_toNat_eq heq
    simp [ruleCmp, hab]
  · have hne : a ≠ b := fun h => hgt.ne' (congrArg BitVec.toNat h)
    simp [ruleCmp, hgt, hgt.not_gt, hne]

end

/-- Settles O44: the cycles of each form run `aluCmp`, which computes what the rule says and has no result to write. -/
theorem compareWritesFlagsOnly : Obligations.CompareWritesFlagsOnly :=
  ⟨twoOperandForms specOf_aluCmp (fun _ _ => rfl) (fun _ _ => rfl) (fun _ _ => rfl),
    twoOperandForms specOf_aluCmp (fun _ _ => rfl) (fun _ _ => rfl) (fun _ _ => rfl),
    fun _ => ruleCmp_flags_exactly_one⟩

end Sys2Proof.Proofs
end

section
/-! PROOFS. The move operation by its rule (spec 45_move.md R280 to R282). -/

namespace Sys2Proof.Proofs

open Sys2Proof.Machine

/-- The result is the operand b alone; Z and N come from it and the other flags stay (R280). -/
theorem specOf_aluMov {w : Nat} : specOf (aluMov (w := w)) = ruleMov := by
  funext f a b
  simp only [specOf, aluMov, ruleMov, setZN_eq_withZN]

/-- Settles O45: the cycles of each form run `aluMov`, which computes what the rule says. -/
theorem moveCopiesTheOperand : Obligations.MoveCopiesTheOperand :=
  ⟨twoOperandForms specOf_aluMov (fun _ _ => rfl) (fun _ _ => rfl) (fun _ _ => rfl),
    twoOperandForms specOf_aluMov (fun _ _ => rfl) (fun _ _ => rfl) (fun _ _ => rfl)⟩

end Sys2Proof.Proofs
end

section
/-! PROOFS. A push that completed, and the pop of the same width that undoes it (spec 46_stack.md R300 to R304). -/

namespace Sys2Proof.Proofs

open Sys2Proof.Machine Sys2Proof.Laws

/-! ## A value whose bytes stand in memory (R66, R67) -/

/-- The bytes of `v` stand from `a` on: both if `wide`, high byte first, else the low byte. -/
def BytesStand (s : State) (a : Addr) (wide : Bool) (v : Word) : Prop :=
  if wide then readByte s a = some (hiByte v) ∧ readByte s (a + 1) = some (loByte v) else readByte s a = some (loByte v)

section

variable {s t : State} {a : Addr} {wide : Bool} {v : Word}

theorem bytesStand_of_kept (h : BytesStand t a wide v) (hfirst : readByte s a = readByte t a)
    (hsecond : wide = true → readByte s (a + 1) = readByte t (a + 1)) : BytesStand s a wide v := by
  cases wide with
  | true => exact ⟨hfirst.trans h.1, (hsecond rfl).trans h.2⟩
  | false => exact hfirst.trans h

/-- A device that keeps bytes answers a read with the value whose bytes stand there. -/
theorem memRead_of_bytesStand {d : MemDevice} {l : Lines} (hd : firstDevice s.cfg.platform a = some d)
    (hin : wide = true → claims d (a + 1) = true) (hmem : d.onRead = .memory) (h : BytesStand s a wide v) :
    memRead s.cfg s.mem l a wide = .ok (if wide then v else (loByte v).setWidth 16) := by
  cases wide with
  | true =>
    obtain ⟨hhi, hlo⟩ := h
    rw [memRead_word_of_cells hd (hin rfl) hmem hhi hlo, joinWord_hiByte_loByte]
    rfl
  | false => exact memRead_byte_of_cell hd hmem h

end

/-- An accepted word write stays inside its device (R74). -/
theorem claims_succ_of_memWrite {c : Config} {m m' : Memory} {l : Lines} {a : Addr} {wide : Bool} {v : Word}
    {d : MemDevice} {log : List Accepted} (h : memWrite c m l a wide v = .ok (m', log))
    (hd : firstDevice c.platform a = some d) (hwide : wide = true) : claims d (a + 1) = true := by
  by_contra hout
  rw [memWrite_of_split hd ⟨hwide, hout⟩] at h
  cases h

/-! ## A push that completed (R149, R300 to R302) -/

/-- The value that a push drives and the pop of its width delivers: R1, or its low byte zero-extended (R301 to R304). -/
def pushedValue (wide : Bool) (s : State) (r1 : Selector) : Word :=
  if wide then readSel s r1 else (loByte (readSel s r1)).setWidth 16

theorem dataLane_pushedValue (wide : Bool) (s : State) (r1 : Selector) :
    (if wide then pushedValue wide s r1 else (loByte (pushedValue wide s r1)).setWidth 16) = pushedValue wide s r1 := by
  cases wide with
  | true => rfl
  | false => simp only [pushedValue, Bool.false_eq_true, if_false, loByte_setWidth]

section

variable {s t u : State} {wide : Bool} {r1 r2 : Selector} {push pop : Selector → Instr}

/-- A push completes only if its write is accepted (R431). -/
theorem memWrite_of_push (hschedule : schedule (push r1) = pushTemplate wide r1) (hs : Ready s) (hsole : SoleWriter s)
    (hrun : exec (push r1) s = .next t) :
    ∃ m log, memWrite s.cfg s.mem (linesAt s 1) (stackByte s s.sp) wide (pushedValue wide s r1) = .ok (m, log) := by
  cases hw : memWrite s.cfg s.mem (linesAt s 1) (stackByte s s.sp) wide (pushedValue wide s r1) with
  | ok p => exact ⟨p.1, p.2, rfl⟩
  | error f =>
    have hstops := exec_stops hschedule (tick_write_fault hs.1 rfl (by simpa using hs.1) rfl rfl
      (by simpa [begun_mem hsole, linesAt_one, pushedValue] using hw))
    cases hrun.symm.trans hstops

/-- What a completed push to RAM leaves for a pop: sp past the value's bytes, which stand inside one device. -/
theorem push_leaves (hschedule : ∀ r1, schedule (push r1) = pushTemplate wide r1) (hne : ∀ r1, push r1 ≠ .hlt)
    (hs : Ready s) (hsole : SoleWriter s) (hram : RamAt s (stackByte s s.sp)) (hrun : exec (push r1) s = .next t) :
    t.cfg = s.cfg ∧ t.sp = s.sp + countOf wide ∧ BytesStand t (stackByte s s.sp) wide (pushedValue wide s r1) ∧
      ∃ d, firstDevice s.cfg.platform (stackByte s s.sp) = some d ∧ d.onRead = .memory ∧
        (wide = true → claims d (stackByte s s.sp + 1) = true) := by
  obtain ⟨d, hd, hstore, hmem⟩ := hram
  obtain ⟨m, log, hw⟩ := memWrite_of_push (hschedule r1) hs hsole hrun
  obtain ⟨t', hrun', ⟨-, -, -, hsp, -⟩, -, -, -, -, -, -, -, -, hbytes⟩ := pushForm hne hschedule s r1 m log hs hsole hw
  cases hrun.symm.trans hrun'
  exact ⟨(exec_keepsEngine hrun).1, hsp, hbytes ⟨d, hd, hstore⟩, d, hd, hmem, claims_succ_of_memWrite hw hd⟩

/-! ## The pop after it (R300, R303, R304) -/

/-- A pop where sp and the pushed bytes are as a push of the same width to RAM left them. -/
theorem completes_pop_after_push (hschedule : ∀ r1, schedule (push r1) = pushTemplate wide r1) (hne : ∀ r1, push r1 ≠ .hlt)
    (hpop : PopForm wide pop) (hs : Ready s) (hsole : SoleWriter s) (hu : Ready u) (hcfg : u.cfg = t.cfg) (hsp : u.sp = t.sp)
    (hram : RamAt s (stackByte s s.sp)) (hrun : exec (push r1) s = .next t)
    (hfirst : readByte u (stackByte s s.sp) = readByte t (stackByte s s.sp))
    (hsecond : wide = true → readByte u (stackByte s s.sp + 1) = readByte t (stackByte s s.sp + 1)) :
    Completes (pop r2) u fun v => v.regs = regsWith u r2 (pushedValue wide s r1) ∧ v.sp = s.sp ∧ v.flags = u.flags := by
  obtain ⟨htcfg, htsp, hstand, d, hd, hmem, hin⟩ := push_leaves hschedule hne hs hsole hram hrun
  rw [htcfg] at hcfg
  have hback : u.sp - countOf wide = s.sp := by rw [hsp, htsp, BitVec.add_sub_cancel]
  have haddr : stackByte u (u.sp - countOf wide) = stackByte s s.sp := by rw [hback, stackByte, hcfg, stackByte]
  have hread : memRead u.cfg u.mem (linesAt u 1) (stackByte u (u.sp - countOf wide)) wide = .ok (pushedValue wide s r1) := by
    rw [haddr, memRead_of_bytesStand (by rw [hcfg, hd]) hin hmem (bytesStand_of_kept hstand hfirst hsecond),
      dataLane_pushedValue]
  obtain ⟨v, hrunPop, ⟨hregs, hflags, -, hvsp, -⟩, -⟩ := hpop u r2 _ hu (by rw [SoleWriter, hcfg, hsole]) hread
  exact ⟨v, hrunPop, hregs, hvsp.trans hback, hflags⟩

end

/-- Settles O49, at both widths: the pop reads the bytes of the accepted write at the address it went to. -/
theorem pushThenPopRestores : Obligations.PushThenPopRestores := by
  intro s t u r1 r2 hs hsole hu hcfg hsp hram
  obtain ⟨hword, hbyte⟩ := popReadsTheStack
  refine ⟨fun hrun hfirst hsecond => ?_, fun hrun hfirst => ?_⟩
  · exact completes_pop_after_push (push := .push) (fun _ => rfl) (fun _ => nofun) hword hs hsole hu hcfg hsp hram hrun
      hfirst fun _ => hsecond
  · exact completes_pop_after_push (push := .pushb) (fun _ => rfl) (fun _ => nofun) hbyte hs hsole hu hcfg hsp hram hrun
      hfirst nofun

end Sys2Proof.Proofs
end

section
/-! PROOFS. A JSR to RAM that completed, and the RTS that undoes it (spec 40_engine.md R147, R149, 47_control.md R322, R323). -/

namespace Sys2Proof.Proofs

open Sys2Proof.Machine Sys2Proof.Laws

section

variable {s t u : State} {a : Addr}

/-- RAM accepts every byte (R74). -/
theorem memWrite_byte_of_ramAt (h : RamAt s a) (m : Memory) (l : Lines) (v : Word) :
    ∃ m', memWrite s.cfg m l a false v = .ok (m', []) := by
  obtain ⟨d, hd, hstore, -⟩ := h
  exact ⟨_, memWrite_of_store (wide := false) hd nofun hstore v⟩

/-- RAM answers with the byte that stands in it, also in a later state with the same configuration (R67, R74). -/
theorem memRead_byte_of_ramAt (h : RamAt s a) (hcfg : u.cfg = s.cfg) {b : Byte} (hb : readByte u a = some b) (l : Lines) :
    memRead u.cfg u.mem l a false = .ok (b.setWidth 16) := by
  obtain ⟨d, hd, -, hmem⟩ := h
  exact memRead_byte_of_cell (by rw [hcfg, hd]) hmem hb

/-- What a completed JSR to RAM leaves for an RTS: sp past the return address, whose three bytes stand below it (R322). -/
theorem call_leaves {m : AbsOperand} (hs : Ready s) (hsole : SoleWriter s)
    (hram : ∀ a ∈ [stackByte s s.sp, stackByte s (s.sp + 1), stackByte s (s.sp + 2)], RamAt s a)
    (hrun : exec (.jsr m) s = .next t) :
    t.cfg = s.cfg ∧ t.sp = s.sp + 3 ∧
      [stackByte s s.sp, stackByte s (s.sp + 1), stackByte s (s.sp + 2)].map (readByte t) =
        [some (bankOf s.pc), some (hiByte (segOf s.pc)), some (loByte (segOf s.pc))] := by
  obtain ⟨m1, hw1⟩ := memWrite_byte_of_ramAt (hram (stackByte s s.sp) (by simp)) s.mem (linesAt s 1)
    ((bankOf s.pc).setWidth 16)
  obtain ⟨m2, hw2⟩ := memWrite_byte_of_ramAt (hram (stackByte s (s.sp + 1)) (by simp)) m1 (linesAt s 2)
    ((hiByte (segOf s.pc)).setWidth 16)
  obtain ⟨m3, hw3⟩ := memWrite_byte_of_ramAt (hram (stackByte s (s.sp + 2)) (by simp)) m2 (linesAt s 3)
    ((loByte (segOf s.pc)).setWidth 16)
  obtain ⟨t', hrun', ⟨-, -, -, hsp, -⟩, -, -, -, -, hbytes⟩ :=
    callPushesReturnAddress s m m1 m2 m3 [] [] [] hs hsole hw1 hw2 hw3
  cases hrun.symm.trans hrun'
  refine ⟨(exec_keepsEngine hrun).1, hsp, hbytes fun a ha => ?_⟩
  obtain ⟨d, hd, hstore, -⟩ := hram a ha
  exact ⟨d, hd, hstore⟩

end

/-- Settles O54: RTS pops the three bytes that the JSR pushed, in reverse order, from the addresses they went to. -/
theorem callThenReturnRestores : Obligations.CallThenReturnRestores := by
  intro s t u m hs hsole hu hcfg hsp stack hram hrun hkept
  obtain ⟨htcfg, htsp, hleft⟩ := call_leaves hs hsole hram hrun
  rw [htcfg] at hcfg
  have hstand : stack.map (readByte u) = [some (bankOf s.pc), some (hiByte (segOf s.pc)), some (loByte (segOf s.pc))] :=
    (List.map_congr_left hkept).trans hleft
  simp only [stack, List.map_cons, List.map_nil, List.cons.injEq, and_true] at hstand
  obtain ⟨hbank, hhi, hlo⟩ := hstand
  have hslot (off : Word) : stackByte u off = stackByte s off := by rw [stackByte, hcfg, stackByte]
  have hsp1 : u.sp - 1 = s.sp + 2 := by rw [hsp, htsp]; bv_omega
  have hsp2 : u.sp - 2 = s.sp + 1 := by rw [hsp, htsp]; bv_omega
  have hsp3 : u.sp - 3 = s.sp := by rw [hsp, htsp, BitVec.add_sub_cancel]
  obtain ⟨v, hreturn, ⟨hregs, hflags, hpc, hvsp, -⟩, hstore, -⟩ :=
    returnFromSubroutine u (loByte (segOf s.pc)) (hiByte (segOf s.pc)) (bankOf s.pc) hu (by rw [SoleWriter, hcfg, hsole])
      (by rw [hsp1, hslot]; exact memRead_byte_of_ramAt (hram _ (by simp [stack])) hcfg hlo _)
      (by rw [hsp2, hslot]; exact memRead_byte_of_ramAt (hram _ (by simp [stack])) hcfg hhi _)
      (by rw [hsp3, hslot]; exact memRead_byte_of_ramAt (hram _ (by simp [stack])) hcfg hbank _)
  rw [joinWord_hiByte_loByte, joinAddr_bankOf_segOf] at hpc
  exact ⟨v, hreturn, hpc, hvsp.trans hsp3, hregs, hflags, hstore⟩

end Sys2Proof.Proofs
end

section
/-! PROOFS. The implied instructions that change a flag or halt the engine, and the engine in Halt (spec 48_flag_control.md R340 to R345, 49_io_system.md R363 to R365). -/

namespace Sys2Proof.Proofs

open Sys2Proof.Machine Sys2Proof.Laws

/-! ## Implied instructions (R145) -/

/-- The state with other flags. -/
def withFlags (g : Flags → Flags) : Action := fun u => { u with flags := g u.flags }

section

variable {i : Instr} {s : State}

/-- An Implied instruction that changes flags at most is one cycle: its effect, then the finish step. -/
theorem exec_withFlags {g : Flags → Flags} (hs : s.fault = none) (hschedule : schedule i = [impliedCycle (withFlags g)]) :
    exec i s = .next (finished (withFlags g (begun s))) :=
  exec_of_schedule hschedule (runCycles_single (tick_finish (effect := withFlags g) hs (by simpa [withFlags] using hs)))

theorem flagForm {g : Flags → Flags} (hne : i ≠ .hlt) (hschedule : schedule i = [impliedCycle (withFlags g)]) :
    FlagForm i g := by
  intro s hs
  have hrun := exec_withFlags hs.1 hschedule
  refine ⟨_, hrun, effect_of_exec hne hs hrun ?_ ?_ ?_ ?_ ?_, noStore_of_exec hrun ?_ begun_mem, ?_, ?_⟩
  all_goals simp [finished, withFlags, KeepsBusPorts, KeepsIoPorts]

end

/-- Settles O55. -/
theorem flagControlAndNop : Obligations.FlagControlAndNop :=
  ⟨flagForm nofun rfl, flagForm nofun rfl, flagForm nofun rfl, flagForm nofun rfl, flagForm nofun rfl, flagForm nofun rfl⟩

/-! ## HLT and the state Halt (R364, R365) -/

/-- Settles O56: the finish step leaves Halt alone, so a latched interrupt is not taken. -/
theorem haltStopsTheEngine : Obligations.HaltStopsTheEngine := by
  intro s hs
  have htick := tick_finish (effect := fun u => { u with phase := .halt }) hs.1 (by simpa using hs.1)
  have hrun : exec .hlt s = .next _ := exec_of_schedule (i := .hlt) rfl (runCycles_single htick)
  refine ⟨_, hrun, ?_, ?_, ?_, ?_, ?_, ?_, ?_, ?_, ?_, ?_, ?_, ?_, exec_keepsEngine hrun,
    noStore_of_exec hrun ?_ begun_mem, ?_, ?_⟩
  all_goals simp [finished, State.status, KeepsBusPorts, KeepsIoPorts, hs.1]

/-- What cycles in Halt leave alone: all but the sampled interrupt state and the enables (R365). -/
structure HaltKeeps (s t : State) : Prop where
  fault : t.fault = none
  phase : t.phase = .halt
  cyc : t.cyc = s.cyc
  regs : t.regs = s.regs
  flags : t.flags = s.flags
  pc : t.pc = s.pc
  sp : t.sp = s.sp
  scr : t.scr = s.scr
  accepted : t.accepted = s.accepted
  mem : SoleWriter s → t.mem = s.mem
  engine : KeepsEngine s t
  busPorts : KeepsBusPorts s t
  ioPorts : KeepsIoPorts s t

/-- All enables are driven to 0 (R123). -/
def EnablesOff (t : State) : Prop := t.busEnable = false ∧ t.ioEnable = false ∧ t.irqAck = false

theorem keepsEngine_trans {s t u : State} (h : KeepsEngine s t) (h' : KeepsEngine t u) : KeepsEngine s u := by
  obtain ⟨hcfg, hirOp, hirMeta, histat⟩ := h
  obtain ⟨hcfg', hirOp', hirMeta', histat'⟩ := h'
  exact ⟨hcfg'.trans hcfg, hirOp'.trans hirOp, hirMeta'.trans hirMeta,
    fun hs => (histat' (histat hs ▸ hs)).trans (histat hs)⟩

theorem keepsEngine_begun (s : State) : KeepsEngine s (begun s) :=
  ⟨begun_cfg s, begun_irOp s, begun_irMeta s, begun_istat_of_ne⟩

theorem HaltKeeps.refl {s : State} (hs : s.fault = none) (hphase : s.phase = .halt) : HaltKeeps s s :=
  ⟨hs, hphase, rfl, rfl, rfl, rfl, rfl, rfl, rfl, fun _ => rfl, ⟨rfl, rfl, rfl, fun _ => rfl⟩, ⟨rfl, rfl, rfl, rfl⟩,
    ⟨rfl, rfl, rfl⟩⟩

section

variable {s t : State}

/-- The counter rolls back by the one that the cycle adds (R365). -/
theorem cycle_of_halt (hs : s.fault = none) (hphase : s.phase = .halt) (hcyc : 1 ≤ s.cyc) : cycle s = .next (begun s) := by
  have hcount : (begun s).cyc - 1 + 1 = (begun s).cyc := Nat.sub_add_cancel ((begun_cyc s).symm ▸ hcyc)
  rw [cycle_halt hphase, tick_idle hs rfl ((begun_fault s).trans hs) rfl rfl]
  show Host.Outcome.next { begun s with cyc := (begun s).cyc - 1 + 1 } = _
  rw [hcount]

theorem HaltKeeps.begun (h : HaltKeeps s t) : HaltKeeps s (Laws.begun t) where
  fault := by simp [h.fault]
  phase := by simp [h.phase]
  cyc := by simp [h.cyc]
  regs := by simp [h.regs]
  flags := by simp [h.flags]
  pc := by simp [h.pc]
  sp := by simp [h.sp]
  scr := by simp [h.scr]
  accepted := by simp [h.accepted]
  mem hsole := (begun_mem (by rw [h.engine.1, hsole])).trans (h.mem hsole)
  engine := keepsEngine_trans h.engine (keepsEngine_begun t)
  busPorts := by simpa [KeepsBusPorts] using h.busPorts
  ioPorts := by simpa [KeepsIoPorts] using h.ioPorts

/-- Cycles in Halt run on, each with its sample and the default drive. -/
theorem cycles_of_halt (n : Nat) (h : HaltKeeps s t) (hcyc : 1 ≤ s.cyc) :
    ∃ u, cycles n t = .next u ∧ HaltKeeps s u ∧ (EnablesOff t ∨ 1 ≤ n → EnablesOff u) := by
  induction n generalizing t with
  | zero => exact ⟨t, rfl, h, fun hoff => hoff.resolve_right (by decide)⟩
  | succ n ih =>
    rw [cycles, cycle_of_halt h.fault h.phase (h.cyc ▸ hcyc), andThen_next]
    obtain ⟨u, hrun, hu, hoff⟩ := ih h.begun
    exact ⟨u, hrun, hu, fun _ => hoff (.inl ⟨rfl, rfl, rfl⟩)⟩

end

/-- Settles O39, by induction on the number of cycles. -/
theorem haltIsPermanent : Obligations.HaltIsPermanent := by
  intro n s hphase hs hcyc
  obtain ⟨t, hrun, h, hoff⟩ := cycles_of_halt n (.refl hs hphase) hcyc
  have hstatus : t.status = .halted := by simp [State.status, h.fault, h.phase]
  exact ⟨t, hrun, h.phase, hstatus, h.cyc, h.regs, h.flags, h.pc, h.sp, h.scr, h.accepted, h.mem, h.engine, h.busPorts,
    h.ioPorts, fun hn => hoff (.inr hn)⟩

end Sys2Proof.Proofs
end

section
/-! PROOFS. The interrupt lines over one cycle and over one instruction: sampling, the latch, the acknowledge line, the finish step that takes a latched interrupt (spec 60_exceptions.md R401 to R418, R460, R461). -/

namespace Sys2Proof.Proofs

open Sys2Proof.Machine Sys2Proof.Laws

/-! ## What a tick leaves, also one that stops (R431) -/

section

variable {act : Action} {s t : State}

theorem leaves_settle (h : Leaves (settle s) t) : t = s := by
  unfold settle at h
  split at h
  next =>
    obtain h | ⟨e, h, -⟩ := h
    · cases h; rfl
    · cases h
  next f _ =>
    obtain h | ⟨e, h, he⟩ := h
    · cases h
    · cases h
      rw [← he, faultOf_final]

theorem leaves_faultOf {f : FaultReg} (h : Leaves (.fault (faultOf f s)) t) : t = s := by
  obtain h | ⟨e, h, he⟩ := h
  · cases h
  · cases h
    rw [← he, faultOf_final]

/-- A tick leaves what its action leaves if that raised a fault, else the resolution of it, the counter incremented (R120). -/
theorem tick_leaves (hs : s.fault = none) (h : Leaves (tick act s) t) :
    t = act (begun s) ∨ t = resolve { act (begun s) with cyc := (act (begun s)).cyc + 1 } := by
  obtain hact | ⟨f, hact⟩ := Option.eq_none_or_eq_some (act (begun s)).fault
  · have hengine := engineCycle_eq (act := act) (s := s) rfl hact
    have htick : tick act s = settle (resolve { act (begun s) with cyc := (act (begun s)).cyc + 1 }) := by
      simp [tick, hs, hengine, hact]
    exact .inr (leaves_settle (htick ▸ h))
  · rw [tick_raise hs rfl hact] at h
    exact .inl (leaves_faultOf h)

/-- Resolution touches neither the latch nor the edge detector. -/
theorem tick_leaves_latch (hs : s.fault = none) (h : Leaves (tick act s) t) :
    t.istat = (act (begun s)).istat ∧ t.nmiPrev = (act (begun s)).nmiPrev := by
  obtain rfl | rfl := tick_leaves hs h
  · exact ⟨rfl, rfl⟩
  · rw [resolve_eq]
    exact ⟨rfl, rfl⟩

/-- What a sample takes from the lines of the cycle (R401). -/
theorem begun_istat_linesAt (s : State) : (begun s).istat =
    if s.istat ≠ .none then s.istat
    else if (linesAt s 1).irq = true ∧ s.flags.i = false then .irq
    else if (linesAt s 1).nmi = true ∧ s.nmiPrev = false then .nmi
    else .none := by
  simp only [begun_istat, linesAt_one, ite_not, Bool.and_eq_true, Bool.not_eq_true']
  congr

end

/-- Settles O28: every cycle is a tick of an action that writes the latch in Interrupt cycle 8 only. -/
theorem sampledEveryCycle : Obligations.SampledEveryCycle := by
  intro s t hs h
  obtain ⟨act, hcycle, hquiet, histat, -⟩ := cycle_action s
  rw [hcycle] at h
  obtain ⟨hlatch, hedge⟩ := tick_leaves_latch hs h
  refine ⟨by rw [hedge, hquiet.nmiPrev, begun_nmiPrev, linesAt_one], fun hlast => ?_⟩
  obtain hkept | ⟨hphase, hcyc, -⟩ := histat (begun s)
  · rw [hlatch, hkept, begun_istat_linesAt]
  · exact absurd ⟨hphase, hcyc⟩ hlast

/-- Settles O29: the sample keeps a latched interrupt, and only Interrupt cycle 8 clears it. -/
theorem latchHeldUntilServiced : Obligations.LatchHeldUntilServiced := by
  refine ⟨fun s t hs h => ?_, fun _ => rfl⟩
  obtain hfault | ⟨f, hfault⟩ := Option.eq_none_or_eq_some s.fault
  · obtain ⟨act, hcycle, -, histat, -⟩ := cycle_action s
    rw [hcycle] at h
    obtain ⟨hlatch, -⟩ := tick_leaves_latch hfault h
    have hbegun := begun_istat_of_ne hs
    obtain hkept | ⟨hphase, hcyc, hcleared, hwhich⟩ := histat (begun s)
    · exact .inl (hlatch.trans (hkept.trans hbegun))
    · rw [hbegun, begun_cfg] at hwhich
      exact .inr ⟨hphase, hcyc, hlatch.trans hcleared, hwhich⟩
  · rw [cycle_faulted hfault] at h
    exact .inl (by rw [leaves_faultOf h])

/-- Settles O30: the default drive clears the acknowledge line and the enables, the action of the cycle sets at most one. -/
theorem acknowledgeAndRequests : Obligations.AcknowledgeAndRequests := by
  intro s t h
  obtain ⟨act, hcycle, hquiet, -, hack⟩ := cycle_action s
  rw [hcycle] at h
  have honce := hquiet.oneRequest (begun s) rfl rfl
  rw [(tick_next_resolve h).2, resolve_eq]
  refine ⟨?_, fun ⟨hbus, hio⟩ => ?_⟩
  · show (act (begun s)).irqAck = true ↔ _
    rw [hack (begun s) rfl, decide_eq_true_eq]
  · rw [show (act (begun s)).busEnable = true from hbus, show (act (begun s)).ioEnable = true from hio] at honce
    cases honce

/-! ## A latched interrupt over an instruction (R403, R410) -/

section

variable {s t : State}

theorem runCycles_keeps_fault {acts : List Action} (hs : s.fault = none) (h : runCycles acts s = .next t) :
    t.fault = none := by
  refine runCycles_keeps (P := fun u => u.fault = none) (fun _ _ _ _ _ htick => ?_) hs h
  obtain ⟨-, -, -, hfault⟩ := tick_next htick
  exact hfault

theorem exec_keeps_istat {i : Instr} (hs : s.istat ≠ .none) (h : exec i s = .next t) : t.istat = s.istat := by
  obtain ⟨-, -, -, histat⟩ := exec_keepsEngine h
  exact histat hs

/-- With an interrupt latched an instruction ends in Interrupt, HLT in Halt (R126). -/
theorem exec_takes {i : Instr} (hs : Ready s) (hlatched : s.istat ≠ .none) (h : exec i s = .next t) :
    t.istat = s.istat ∧ (t.phase = .interrupt ∨ t.phase = .halt) := by
  have histat := exec_keeps_istat hlatched h
  obtain ⟨hphase, -⟩ := finishChoosesNextState i s t hs h
  refine ⟨histat, ?_⟩
  rw [hphase, histat, if_pos hlatched]
  split
  · exact .inr rfl
  · exact .inl rfl

theorem executeFetched_takes (hs : Executes s 0 s) (hfault : s.fault = none) (hlatched : s.istat ≠ .none)
    (h : executeFetched s = .next t) : t.istat = s.istat ∧ (t.phase = .interrupt ∨ t.phase = .halt) := by
  unfold executeFetched at h
  split at h
  next => exact absurd h (tick_raise_ne_next _ s t)
  next mn mode _ =>
    obtain ⟨u, hoperand, hexec⟩ := andThen_eq_next.mp h
    have histat := runCycles_keeps_istat (plain_operand mn mode) hlatched hoperand
    have hready : Ready u := ⟨runCycles_keeps_fault hfault hoperand, (executes_of_operandCycles hs hoperand).phase⟩
    unfold executeLatched at hexec
    split at hexec
    next =>
      rw [← histat]
      exact exec_takes hready (histat ▸ hlatched) hexec
    next => exact absurd hexec (tick_raise_ne_next _ u t)

/-- An instruction takes what its first cycle leaves latched (R410). -/
theorem runInstruction_takes (hlatched : (begun s).istat ≠ .none) (h : runInstruction s = .next t) :
    t.istat = (begun s).istat ∧ (t.phase = .interrupt ∨ t.phase = .halt) := by
  obtain ⟨u, hfetch, hexecute⟩ := andThen_eq_next.mp h
  have hexecutes := executes_of_fetchCycles hfetch
  obtain ⟨v, hfirst, hrest⟩ := andThen_eq_next.mp hfetch
  obtain ⟨-, -, -, hvfault⟩ := tick_next hfirst
  have hv : v.istat = (begun s).istat := (tick_leaves_latch (tick_next hfirst).1 (.inl hfirst)).1
  have hplain : AllPlain (fetchCycles.drop 1) := fun act hact => plain_fetch act (List.mem_of_mem_drop hact)
  have hu : u.istat = v.istat := runCycles_keeps_istat hplain (hv ▸ hlatched) hrest
  have hufault := runCycles_keeps_fault hvfault hrest
  rw [← hv, ← hu]
  exact executeFetched_takes hexecutes hufault (hu ▸ hv ▸ hlatched) hexecute

end

/-- Settles O31, by what the first cycle's sample leaves in the latch. -/
theorem takenAtFinish : Obligations.TakenAtFinish := by
  rintro s t ⟨-, hphase, hcyc⟩ h
  rw [step_runInstruction hphase hcyc] at h
  refine ⟨fun hlatched => ?_, fun hempty hi hirq => ?_⟩
  · have hbegun := begun_istat_of_ne hlatched
    rw [← hbegun]
    exact runInstruction_takes (hbegun ▸ hlatched) h
  · have hbegun : (begun s).istat = .irq := by simp [begun_istat_linesAt, hempty, hi, hirq]
    rw [← hbegun]
    exact runInstruction_takes (by simp [hbegun]) h

/-- Settles O34: SEI and CLI sample with the flag I of before them; the instruction after CLI samples with I = 0. -/
theorem interruptFlagWindows : Obligations.InterruptFlagWindows := by
  refine ⟨fun s hs hempty hi hirq => ?_, fun s hs hempty hi hedge => ?_⟩
  · have hlatch : (begun s).istat = .irq := by simp [begun_istat_linesAt, hempty, hi, hirq]
    refine ⟨_, exec_withFlags (g := fun f => { f with i := true }) hs.1 rfl, rfl, hlatch, ?_⟩
    simp [finished, withFlags, hs.2, hlatch]
  · have hlatch : (begun s).istat = .none := by simpa [begun_istat_linesAt, hempty, hi] using hedge
    have hrun := exec_withFlags (i := .cli) (g := fun f => { f with i := false }) hs.1 rfl
    generalize ht : finished (withFlags (fun f => { f with i := false }) (begun s)) = t at hrun
    have histat : t.istat = .none := by rw [← ht]; exact hlatch
    have hphase : t.phase = .fetch := by simp [← ht, finished, withFlags, hs.2, hlatch]
    have hflag : t.flags.i = false := by rw [← ht]; rfl
    have hat : AtFetch t := ⟨by simp [← ht, finished, withFlags, hs.1], hphase, by rw [← ht]; rfl⟩
    exact ⟨t, hrun, hflag, histat, hphase, fun hirq u hu => (takenAtFinish t u hat hu).2 histat hflag hirq⟩

end Sys2Proof.Proofs
end

section
/-! PROOFS. The cycles of a sequence that wait for a transaction: what they leave when it is answered and when it faults (spec 40_engine.md R120 to R123, 60_exceptions.md R431); the Reset sequence and the faults of reset() (70_reset_and_hazards.md R450 to R454). -/

namespace Sys2Proof.Proofs

open Sys2Proof.Machine Sys2Proof.Laws

/-! ## Inside a sequence -/

/-- As `Underway`, and the engine is still in the sequence: state, instruction register and a latched interrupt as before. -/
structure Midway (n : Nat) (s t : State) (sp : Word) (scr : Addr) (m : Memory) (log : List Accepted) : Prop
    extends Underway n s t sp scr m log where
  engine : KeepsEngine s t
  phase : t.phase = s.phase

/-- What the fault of a transaction leaves: the stack pointer, memory and the accepted writes as given, the registers, the
flags, pc and the engine's other state as before the sequence (R431). -/
structure FaultLeaves (s t : State) (sp : Word) (m : Memory) (log : List Accepted) : Prop where
  regs : t.regs = s.regs
  flags : t.flags = s.flags
  pc : t.pc = s.pc
  engine : KeepsEngine s t
  phase : t.phase = s.phase
  sp : t.sp = sp
  mem : t.mem = m
  accepted : t.accepted = log

section

variable {n : Nat} {s t u : State} {sp sp' : Word} {scr scr' : Addr} {m m' : Memory} {log l : List Accepted} {act : Action}
  {a : Addr} {wide : Bool} {v : Word} {f : FaultReg}

theorem FaultLeaves.cfg (h : FaultLeaves s t sp m log) : t.cfg = s.cfg := by
  obtain ⟨hcfg, -⟩ := h.engine
  exact hcfg

theorem Midway.start (hs : s.fault = none) : Midway 0 s s s.sp s.scr s.mem s.accepted :=
  ⟨.start hs, ⟨rfl, rfl, rfl, fun _ => rfl⟩, rfl⟩

theorem Midway.begun_mem (h : Midway n s t sp scr m log) (hsole : SoleWriter s) : (begun t).mem = m :=
  (Laws.begun_mem (h.soleWriter hsole)).trans h.mem

theorem Midway.istat (h : Midway n s t sp scr m log) (hlatched : s.istat ≠ .none) : t.istat = s.istat := by
  obtain ⟨-, -, -, histat⟩ := h.engine
  exact histat hlatched

/-- A cycle that leaves the engine's state, the instruction register and the latch goes on with the sequence. -/
theorem Midway.next (h : Midway n s t sp scr m log) (htick : tick act t = .next u) (hengine : KeepsEngine t (act (begun t)))
    (hphase : (act (begun t)).phase = t.phase) (hu : Underway (n + 1) s u sp' scr' m' l) :
    Midway (n + 1) s u sp' scr' m' l := by
  have hresolve : KeepsEngine t u := by
    rw [(tick_next_resolve htick).2, resolve_eq]
    exact hengine
  exact ⟨hu, keepsEngine_trans h.engine hresolve, (tick_next_phase htick).trans (hphase.trans h.phase)⟩

/-- A cycle that drives the acknowledge line and requests nothing (R414). -/
theorem Midway.acknowledge (h : Midway n s t sp scr m log) (hsole : SoleWriter s) (hquiet : Quiet act)
    (hact : act (begun t) = { begun t with irqAck := true }) :
    ∃ u, tick act t = .next u ∧ Midway (n + 1) s u sp scr m log := by
  have htick := tick_idle h.fault hact (by simpa using h.fault) rfl rfl
  refine ⟨_, htick, h.next htick (hact ▸ keepsEngine_begun t) (by simp [hact]) ⟨?_, ?_, ?_, ?_, ?_,
    keepsIoPorts_trans h.ioPorts ?_, h.next_lines hquiet htick, ?_, ?_, h.begun_mem hsole, ?_⟩⟩
  all_goals simp [KeepsIoPorts, h.fault, h.cfg, h.regs, h.flags, h.pc, h.sp, h.scr, h.accepted]

/-- A read that is answered. -/
theorem Midway.read (h : Midway n s t sp scr m log) (hsole : SoleWriter s) (hquiet : Quiet act)
    (hact : act (begun t) = { busRead a wide (begun t) with sp := sp', scr := scr' })
    (hr : memRead s.cfg m (linesAt s (n + 1)) a wide = .ok v) :
    ∃ u, tick act t = .next u ∧ Midway (n + 1) s u sp' scr' m log ∧ u.data = v := by
  have htick : tick act t = .next (answered { busRead a wide (begun t) with sp := sp', scr := scr' } v) := by
    refine tick_read h.fault hact (by simpa using h.fault) rfl rfl rfl ?_
    rw [← h.lines, linesAt_one] at hr
    simpa [h.begun_mem hsole, h.cfg] using hr
  refine ⟨_, htick, h.next htick (hact ▸ keepsEngine_begun t) (by simp [hact]) ⟨?_, ?_, ?_, ?_, ?_,
    keepsIoPorts_trans h.ioPorts ?_, h.next_lines hquiet htick, rfl, rfl, h.begun_mem hsole, ?_⟩, rfl⟩
  all_goals simp [answered, KeepsIoPorts, h.fault, h.cfg, h.regs, h.flags, h.pc, h.accepted]

/-- A byte push that is accepted. -/
theorem Midway.push {b : Byte} (h : Midway n s t sp scr m log) (hsole : SoleWriter s) (hquiet : Quiet act)
    (hact : act (begun t) = pushByte b { begun t with scr := scr' })
    (hw : memWrite s.cfg m (linesAt s (n + 1)) (stackByte s sp) false (b.setWidth 16) = .ok (m', l)) :
    ∃ u, tick act t = .next u ∧ Midway (n + 1) s u (sp + 1) scr' m' (l ++ log) := by
  obtain ⟨u, htick, hu⟩ := h.toUnderway.push hsole hquiet hact hw
  exact ⟨u, htick, h.next htick (hact ▸ keepsEngine_begun t) (by simp [hact]) hu⟩

/-! ## A transaction that faults (R431) -/

/-- The issuing cycle's own update of sp stands. -/
theorem Midway.stopped (h : Midway n s t sp scr m log) (hsole : SoleWriter s) (hengine : KeepsEngine t u)
    (hregs : u.regs = t.regs) (hflags : u.flags = t.flags) (hpc : u.pc = t.pc) (hphase : u.phase = t.phase)
    (hsp : u.sp = sp') (hmem : u.mem = (begun t).mem) (haccepted : u.accepted = t.accepted) :
    FaultLeaves s (Proofs.stopped u f) sp' m log :=
  ⟨hregs.trans h.regs, hflags.trans h.flags, hpc.trans h.pc, keepsEngine_trans h.engine hengine, hphase.trans h.phase, hsp,
    hmem.trans (h.begun_mem hsole), haccepted.trans h.accepted⟩

theorem Midway.stopped_read (h : Midway n s t sp scr m log) (hsole : SoleWriter s) (a : Addr) (wide : Bool) (sp' : Word)
    (scr' : Addr) (f : FaultReg) :
    FaultLeaves s (Proofs.stopped { busRead a wide (begun t) with sp := sp', scr := scr' } f) sp' m log :=
  h.stopped hsole (keepsEngine_begun t) (begun_regs t) (begun_flags t) (begun_pc t) (begun_phase t) rfl rfl (begun_accepted t)

theorem Midway.tick_read_fault (h : Midway n s t sp scr m log) (hsole : SoleWriter s)
    (hact : act (begun t) = { busRead a wide (begun t) with sp := sp', scr := scr' })
    (hr : memRead s.cfg m (linesAt s (n + 1)) a wide = .error f) :
    tick act t = .fault (faultOf f (Proofs.stopped { busRead a wide (begun t) with sp := sp', scr := scr' } f)) := by
  refine Laws.tick_read_fault h.fault hact (by simpa using h.fault) rfl rfl ?_
  rw [← h.lines, linesAt_one] at hr
  simpa [h.begun_mem hsole, h.cfg] using hr

/-- A read that faults. -/
theorem Midway.read_fault (h : Midway n s t sp scr m log) (hsole : SoleWriter s)
    (hact : act (begun t) = { busRead a wide (begun t) with sp := sp', scr := scr' })
    (hr : memRead s.cfg m (linesAt s (n + 1)) a wide = .error f) :
    FaultsWith (tick act t) f fun u => FaultLeaves s u sp' m log :=
  ⟨_, h.tick_read_fault hsole hact hr, rfl, h.stopped_read hsole a wide sp' scr' f⟩

/-- A write that faults. -/
theorem Midway.write_fault (h : Midway n s t sp scr m log) (hsole : SoleWriter s)
    (hact : act (begun t) = { busWrite a wide v (begun t) with sp := sp', scr := scr' })
    (hw : memWrite s.cfg m (linesAt s (n + 1)) a wide (if wide then v else (loByte v).setWidth 16) = .error f) :
    FaultsWith (tick act t) f fun u => FaultLeaves s u sp' m log := by
  have htick : tick act t =
      .fault (faultOf f (Proofs.stopped { busWrite a wide v (begun t) with sp := sp', scr := scr' } f)) := by
    refine tick_write_fault h.fault hact (by simpa using h.fault) rfl rfl ?_
    rw [← h.lines, linesAt_one] at hw
    simpa [h.begun_mem hsole, h.cfg] using hw
  exact ⟨_, htick, rfl, h.stopped hsole (keepsEngine_begun t) (begun_regs t) (begun_flags t) (begun_pc t) (begun_phase t)
    rfl rfl (begun_accepted t)⟩

theorem faultsWith_mono {r : Result} {P Q : State → Prop} (h : FaultsWith r f P) (himp : ∀ u, P u → Q u) :
    FaultsWith r f Q := by
  obtain ⟨u, hr, hu, hP⟩ := h
  exact ⟨u, hr, hu, himp u hP⟩

/-- A fault ends the sequence (R433). -/
theorem faultsWith_runCycles {P : State → Prop} (h : FaultsWith (tick act t) f P) (rest : List Action) :
    FaultsWith (runCycles (act :: rest) t) f P := by
  obtain ⟨u, htick, hu, hP⟩ := h
  exact ⟨u, by rw [runCycles_cons, htick, andThen_fault], hu, hP⟩

theorem not_next_of_faultsWith {r : Result} {P : State → Prop} (h : FaultsWith r f P) (t : State) : r ≠ .next t := by
  obtain ⟨u, hr, -⟩ := h
  rw [hr]
  exact nofun

end

/-! ## The Reset sequence (R451, R454) -/

/-- The three cycles of Reset whose two reads are answered. -/
theorem runCycles_resetCycles {s : State} {b0 b1 b2 : Byte} (hs : s.fault = none) (hsole : SoleWriter s)
    (hbank : Reads s 0x000000 false (b0.setWidth 16)) (hseg : Reads s 0x000001 true (joinWord b1 b2)) :
    ∃ t, runCycles resetCycles s = .next t ∧ t.phase = .fetch ∧ t.cyc = 1 ∧ t.pc = joinAddr b0 (joinWord b1 b2) ∧
      t.regs = s.regs ∧ t.flags = s.flags ∧ t.sp = s.sp ∧ t.fault = none ∧ t.cfg = s.cfg ∧ t.mem = s.mem := by
  have hquiet (act : Action) (hact : act ∈ resetCycles) : Quiet act := (plain_reset act hact).toQuiet
  obtain ⟨t1, htick1, h1, hdata1⟩ := (Midway.start hs).read hsole (sp' := s.sp) (scr' := s.scr)
    (act := fun s => busRead 0x000000 false s) (hquiet _ (by simp [resetCycles])) (by simp [busRead]) (hbank _)
  obtain ⟨t2, htick2, h2, hdata2⟩ := h1.read hsole (sp' := s.sp) (scr' := joinAddr b0 (segOf s.scr))
    (act := fun s => busRead 0x000001 true { s with scr := joinAddr (loByte s.data) (segOf s.scr) })
    (hquiet _ (by simp [resetCycles])) (by simp [busRead, hdata1, h1.sp, h1.scr, loByte_setWidth]) (hseg _)
  have htick3 := tick_idle (act := fun s =>
      { s with scr := joinAddr (bankOf s.scr) s.data, pc := joinAddr (bankOf s.scr) s.data, phase := .fetch, cyc := 0 })
    (u := { begun t2 with scr := joinAddr b0 (joinWord b1 b2), pc := joinAddr b0 (joinWord b1 b2), phase := .fetch, cyc := 0 })
    h2.fault (by simp [h2.scr, hdata2, bankOf_joinAddr]) (by simpa using h2.fault) rfl rfl
  refine ⟨_, (runCycles_cons_of_tick htick1 _).trans ((runCycles_cons_of_tick htick2 _).trans (runCycles_single htick3)),
    rfl, rfl, rfl, ?_, ?_, ?_, ?_, ?_, h2.begun_mem hsole⟩
  all_goals simp [h2.regs, h2.flags, h2.sp, h2.fault, h2.cfg]

/-- Settles O36: reset() leaves cycle 1 of the Reset sequence and memory as it was. -/
theorem resetReadsVector : Obligations.ResetReadsVector := by
  intro s b0 b1 b2 hconfig hsole hbank hseg
  obtain ⟨t, hrun, hphase, hcyc, hpc, hregs, hflags, hsp, hfault, hcfg, hmem⟩ :=
    runCycles_resetCycles (s := hostReset s) hconfig hsole hbank hseg
  exact ⟨t, (cycles_reset rfl rfl).trans hrun, (step_reset rfl rfl).trans hrun, hphase, hcyc, hpc, hregs, hflags, hsp, hfault,
    keepsMemory_of_mem hcfg hmem⟩

/-! ## The faults of reset() (R432, R450) -/

/-- What reset() records ends every step and every cycle at once. -/
theorem hostReset_stops {s : State} {f : FaultReg} (h : configFault s.cfg = some f) :
    (hostReset s).fault = some f ∧ step (hostReset s) = .fault (faultOf f (hostReset s)) ∧
      cycle (hostReset s) = .fault (faultOf f (hostReset s)) :=
  ⟨h, step_faulted h, cycle_faulted h⟩

theorem configFault_of_badRow {c : Config} {op : Byte} (h : firstBadRow c.opcodeTable = some op) :
    configFault c = some (.configTable op) := by
  simp [configFault, h]

theorem configFault_of_longImage {c : Config} (htable : firstBadRow c.opcodeTable = none)
    (himage : romSize c.platform < c.platform.image.length) :
    configFault c = some (.configImage c.platform.image.length) := by
  simp [configFault, htable, imageFits, himage]

/-- Settles O37. -/
theorem resetRecordsConfigurationFault : Obligations.ResetRecordsConfigurationFault :=
  fun _ => ⟨fun _ h => hostReset_stops (configFault_of_badRow h),
    fun htable himage => hostReset_stops (configFault_of_longImage htable himage)⟩

end Sys2Proof.Proofs
end

section
/-! PROOFS. Instructions stopped by a fault of a transaction: the loads, the stores, the stack instructions, JSR, RTS and RTI (spec 40_engine.md R142 to R149, 60_exceptions.md R431, R433). -/

namespace Sys2Proof.Proofs

open Sys2Proof.Machine Sys2Proof.Laws

section

variable {i : Instr} {s t : State} {a : Addr} {wide : Bool} {w sp : Word} {scr : Addr} {f : FaultReg} {request : Action}
  {rest : List Action}

theorem FaultLeaves.keepsAll (h : FaultLeaves s t sp s.mem s.accepted) : FaultKeepsAll s t :=
  ⟨h.regs, h.flags, h.pc, keepsMemory_of_mem h.cfg h.mem, h.accepted, h.engine⟩

theorem FaultLeaves.keeps (h : FaultLeaves s t sp s.mem s.accepted) (hs : Ready s) : FaultKeeps s t ∧ t.sp = sp :=
  ⟨⟨h.keepsAll, h.phase.trans hs.2⟩, h.sp⟩

theorem faultsWith_exec {P : State → Prop} (hschedule : schedule i = rest) (h : FaultsWith (runCycles rest s) f P) :
    FaultsWith (exec i s) f P := by
  rwa [exec_eq_schedule, hschedule]

/-! ## Loads (R142) -/

theorem loadFaultForm {n : Nat} {op : AluOp n} {i : Selector → AbsOperand → Instr}
    (hschedule : ∀ r1 m, schedule (i r1 m) = [loadRequest wide m, loadFinish n op r1]) : LoadFaultForm wide i := by
  intro s r1 m f hs hsole hread
  have hrequest : loadRequest wide m (begun s) =
      { busRead (effectiveAddr s m) wide (begun s) with sp := s.sp, scr := effectiveAddr s m } := by
    simp [loadRequest, resolveAddr, busRead]
  have hstart := Midway.start hs.1
  obtain ⟨hkeeps, hsp⟩ := (hstart.stopped_read hsole (effectiveAddr s m) wide s.sp (effectiveAddr s m) f).keeps hs
  exact ⟨_, exec_stops (hschedule r1 m) (hstart.tick_read_fault hsole hrequest hread), rfl, hkeeps, hsp, rfl, begun_data s,
    rfl, rfl, rfl, rfl⟩

/-! ## One transaction: stores, pushes and pops (R143, R149) -/

theorem faults_write (hschedule : schedule i = request :: rest) (hs : Ready s) (hsole : SoleWriter s)
    (hrequest : request (begun s) = { busWrite a wide w (begun s) with sp := sp, scr := scr })
    (hw : memWrite s.cfg s.mem (linesAt s 1) a wide (if wide then w else (loByte w).setWidth 16) = .error f) :
    FaultsWith (exec i s) f fun t => FaultKeeps s t ∧ t.sp = sp :=
  faultsWith_exec hschedule
    (faultsWith_mono (faultsWith_runCycles ((Midway.start hs.1).write_fault hsole hrequest hw) rest) fun _ h => h.keeps hs)

theorem faults_read (hschedule : schedule i = request :: rest) (hs : Ready s) (hsole : SoleWriter s)
    (hrequest : request (begun s) = { busRead a wide (begun s) with sp := sp, scr := scr })
    (hr : memRead s.cfg s.mem (linesAt s 1) a wide = .error f) :
    FaultsWith (exec i s) f fun t => FaultKeeps s t ∧ t.sp = sp :=
  faultsWith_exec hschedule
    (faultsWith_mono (faultsWith_runCycles ((Midway.start hs.1).read_fault hsole hrequest hr) rest) fun _ h => h.keeps hs)

theorem faults_store {r1 : Selector} {m : AbsOperand} (hschedule : schedule i = [storeRequest wide r1 m, finish])
    (hs : Ready s) (hsole : SoleWriter s)
    (hw : memWrite s.cfg s.mem (linesAt s 1) (effectiveAddr s m) wide (pushedValue wide s r1) = .error f) :
    FaultsWith (exec i s) f fun t => FaultKeeps s t ∧ t.sp = s.sp :=
  faults_write hschedule hs hsole (scr := effectiveAddr s m) (w := readSel s r1)
    (by simp [storeRequest, busWrite, readSel]) hw

theorem faults_push {r1 : Selector} (hschedule : schedule i = pushTemplate wide r1) (hs : Ready s) (hsole : SoleWriter s)
    (hw : memWrite s.cfg s.mem (linesAt s 1) (stackByte s s.sp) wide (pushedValue wide s r1) = .error f) :
    FaultsWith (exec i s) f fun t => FaultKeeps s t ∧ t.sp = s.sp + countOf wide :=
  faults_write hschedule hs hsole (scr := s.scr) (w := readSel s r1) (by simp [busWrite, transferSize, countOf]) hw

theorem faults_pop {r1 : Selector} (hschedule : schedule i = popTemplate wide r1) (hs : Ready s) (hsole : SoleWriter s)
    (hr : memRead s.cfg s.mem (linesAt s 1) (stackByte s (s.sp - countOf wide)) wide = .error f) :
    FaultsWith (exec i s) f fun t => FaultKeeps s t ∧ t.sp = s.sp - countOf wide :=
  faults_read hschedule hs hsole (scr := s.scr)
    (by simp [busRead, stackAddr, stackByte, transferSize, countOf]) hr

end

/-- Settles O59. -/
theorem loadFaultsKeepRegisters : Obligations.LoadFaultsKeepRegisters :=
  ⟨loadFaultForm fun _ _ => rfl, loadFaultForm fun _ _ => rfl, loadFaultForm fun _ _ => rfl, loadFaultForm fun _ _ => rfl,
    loadFaultForm fun _ _ => rfl, loadFaultForm fun _ _ => rfl, loadFaultForm fun _ _ => rfl, loadFaultForm fun _ _ => rfl,
    loadFaultForm fun _ _ => rfl, loadFaultForm fun _ _ => rfl, loadFaultForm fun _ _ => rfl, loadFaultForm fun _ _ => rfl,
    loadFaultForm fun _ _ => rfl, loadFaultForm fun _ _ => rfl⟩

/-! ## A run of byte pushes (R31) -/

/-- The action pushes the byte in every state that has the configuration, the flags and the pc of `s`. -/
def PushesByte (s : State) (b : Byte) (act : Action) : Prop :=
  Quiet act ∧ ∀ u : State, u.cfg = s.cfg → u.flags = s.flags → u.pc = s.pc →
    ∃ scr, act u = pushByte b { u with scr := scr }

section

variable {n : Nat} {s t : State} {off : Word} {scr : Addr} {m m' : Memory} {log log' : List Accepted} {b : Byte}
  {bs before rest : List Byte} {acts tail : List Action} {f : FaultReg}

theorem Midway.pushesByte {act : Action} (h : Midway n s t off scr m log) (hact : PushesByte s b act) :
    ∃ scr', act (begun t) = pushByte b { begun t with scr := scr' } :=
  hact.2 (begun t) ((begun_cfg t).trans h.cfg) ((begun_flags t).trans h.flags) ((begun_pc t).trans h.pc)

/-- Pushes whose writes are accepted. -/
theorem Midway.pushes (h : Midway n s t off scr m log) (hsole : SoleWriter s) (hacts : List.Forall₂ (PushesByte s) bs acts)
    (hpushed : BytesPushed s (n + 1) off m log bs m' log') :
    ∃ u scr', runCycles acts t = .next u ∧
      Midway (n + bs.length) s u (off + BitVec.ofNat 16 bs.length) scr' m' log' := by
  induction hacts generalizing n t off scr m log with
  | nil =>
    obtain ⟨rfl, rfl⟩ := hpushed
    exact ⟨t, scr, rfl, by simpa using h⟩
  | @cons b act rest acts hact _ ih =>
    obtain ⟨m1, l1, hw, hrest⟩ := hpushed
    obtain ⟨scr', heq⟩ := h.pushesByte hact
    obtain ⟨u, htick, hu⟩ := h.push hsole hact.1 heq hw
    obtain ⟨v, scr'', hrun, hv⟩ := ih hu hrest
    rw [offset_succ, Nat.add_assoc, Nat.add_comm 1] at hv
    exact ⟨v, scr'', (runCycles_cons_of_tick htick acts).trans hrun, hv⟩

/-- Pushes the first of whose writes that is not accepted faults: what those before it wrote stands. -/
theorem Midway.push_fault (h : Midway n s t off scr m log) (hsole : SoleWriter s)
    (hacts : List.Forall₂ (PushesByte s) (before ++ b :: rest) acts)
    (hpushed : BytesPushed s (n + 1) off m log before m' log')
    (hw : memWrite s.cfg m' (linesAt s (n + 1 + before.length)) (stackByte s (off + BitVec.ofNat 16 before.length)) false
      (b.setWidth 16) = .error f) :
    FaultsWith (runCycles (acts ++ tail) t) f fun u =>
      FaultLeaves s u (off + BitVec.ofNat 16 (before.length + 1)) m' log' := by
  induction before generalizing n t off scr m log acts with
  | nil =>
    cases hacts with
    | @cons _ act _ acts hact _ =>
    obtain ⟨rfl, rfl⟩ := hpushed
    obtain ⟨scr', heq⟩ := h.pushesByte hact
    rw [List.length_nil, BitVec.add_zero] at hw
    refine faultsWith_runCycles (h.write_fault hsole (a := stackByte s off) (wide := false) (v := b.setWidth 16)
      (sp' := off + 1) (scr' := scr') ?_ ?_) _
    · simp [heq, pushByte, busWrite, stackAddr, stackByte, h.cfg, h.sp]
    · simpa [loByte_setWidth] using hw
  | cons b' before ih =>
    cases hacts with
    | @cons _ act _ acts hact hacts =>
    obtain ⟨m1, l1, hw1, hrest⟩ := hpushed
    obtain ⟨scr', heq⟩ := h.pushesByte hact
    obtain ⟨u, htick, hu⟩ := h.push hsole hact.1 heq hw1
    have hw' : memWrite s.cfg m' (linesAt s (n + 1 + 1 + before.length))
        (stackByte s (off + 1 + BitVec.ofNat 16 before.length)) false (b.setWidth 16) = .error f := by
      rw [offset_succ, Nat.add_assoc (n + 1), Nat.add_comm 1]
      exact hw
    have hfault := ih hu hacts hrest hw'
    rw [offset_succ] at hfault
    rwa [List.cons_append, runCycles_cons_of_tick htick]

theorem length_le_of_split (h : bs = before ++ b :: rest) : before.length ≤ bs.length := by
  rw [h, List.length_append]
  exact Nat.le_add_right ..

/-- What stands of the pushes before the one that faulted. -/
theorem FaultLeaves.pushFault (h : FaultLeaves s t (s.sp + BitVec.ofNat 16 (before.length + 1)) m' log')
    (hlength : before.length ≤ 65536) (hpushed : BytesPushed s n s.sp s.mem s.accepted before m' log') :
    PushFaultLeaves s before m' log' t := by
  refine ⟨h.regs, h.flags, h.pc, h.engine, h.phase, h.sp, h.mem, h.accepted, fun a ha => ?_, fun k b hb hstores => ?_⟩
  · rw [readByte, readByte, h.cfg, h.mem]
    refine readCell_of_bytesPushed hpushed fun k hk heq => ha ?_
    exact List.mem_map.mpr ⟨k, List.mem_range.mpr hk, heq.symm⟩
  · rw [readByte, h.cfg, h.mem]
    exact readCell_pushed hpushed hlength hb hstores

/-! ## JSR (R147) -/

theorem callTemplate_pushes (s : State) (operand : AbsOperand) : List.Forall₂ (PushesByte s)
    [bankOf s.pc, hiByte (segOf s.pc), loByte (segOf s.pc)] ((callTemplate operand).take 3) := by
  have hquiet (act : Action) (hact : act ∈ callTemplate operand) : Quiet act := (plain_call operand act hact).toQuiet
  exact .cons ⟨hquiet _ (by simp [callTemplate]), fun u _ _ hpc => ⟨effectiveAddr u operand, by rw [← hpc]; rfl⟩⟩
    (.cons ⟨hquiet _ (by simp [callTemplate]), fun u _ _ hpc => ⟨u.scr, by rw [← hpc]⟩⟩
      (.cons ⟨hquiet _ (by simp [callTemplate]), fun u _ _ hpc => ⟨u.scr, by rw [← hpc]⟩⟩ .nil))

theorem callFaultForm : CallFaultForm := by
  intro s operand before b rest m log f hs hsole hbytes hpushed hw
  have hpushes := callTemplate_pushes s operand
  rw [hbytes] at hpushes
  have hlength : before.length ≤ 65536 := (length_le_of_split hbytes).trans (by simp)
  refine faultsWith_exec (i := .jsr operand) rfl (faultsWith_mono ?_ fun _ h => FaultLeaves.pushFault h hlength hpushed)
  exact (Midway.start hs.1).push_fault hsole hpushes (tail := (callTemplate operand).drop 3) hpushed hw

/-! ## A run of byte pops: RTS and RTI (R149) -/

/-- The action pops a byte. -/
def PopsByte (act : Action) : Prop := Quiet act ∧ ∀ u : State, ∃ scr, act u = popByte { u with scr := scr }

theorem offset_pred (off : Word) (k : Nat) : off - 1 - BitVec.ofNat 16 k = off - BitVec.ofNat 16 (k + 1) := by
  rw [BitVec.ofNat_add]
  bv_omega

/-- Pops the first of which that is not answered faults: nothing is stored. -/
theorem Midway.pop_fault {popped : List Byte} (h : Midway n s t off scr s.mem log) (hsole : SoleWriter s)
    (hacts : ∀ act ∈ acts, PopsByte act) (hlength : popped.length < acts.length) (hpopped : BytesPopped s (n + 1) off popped)
    (hr : memRead s.cfg s.mem (linesAt s (n + 1 + popped.length))
      (stackByte s (off - BitVec.ofNat 16 (popped.length + 1))) false = .error f) :
    FaultsWith (runCycles (acts ++ tail) t) f fun u =>
      FaultLeaves s u (off - BitVec.ofNat 16 (popped.length + 1)) s.mem log := by
  induction acts generalizing n t off scr popped with
  | nil => exact absurd hlength (Nat.not_lt_zero _)
  | cons act acts ih =>
    rw [List.forall_mem_cons] at hacts
    obtain ⟨⟨hquiet, hpop⟩, hacts⟩ := hacts
    obtain ⟨scr', heq⟩ := hpop (begun t)
    have hrequest : act (begun t) =
        { busRead (stackByte s (off - 1)) false (begun t) with sp := off - 1, scr := scr' } := by
      simp [heq, popByte, busRead, stackAddr, stackByte, h.cfg, h.sp]
    cases popped with
    | nil => exact faultsWith_runCycles (h.read_fault hsole hrequest hr) _
    | cons b popped =>
      obtain ⟨hread, hrest⟩ := hpopped
      obtain ⟨u, htick, hu, -⟩ := h.read hsole hquiet hrequest hread
      have hr' : memRead s.cfg s.mem (linesAt s (n + 1 + 1 + popped.length))
          (stackByte s (off - 1 - BitVec.ofNat 16 (popped.length + 1))) false = .error f := by
        rw [offset_pred, Nat.add_assoc (n + 1), Nat.add_comm 1]
        exact hr
      have hfault := ih hu hacts (Nat.lt_of_succ_lt_succ hlength) hrest hr'
      rw [offset_pred] at hfault
      rwa [List.cons_append, runCycles_cons_of_tick htick]

theorem returnPops_pop : ∀ act ∈ returnPops, PopsByte act := by
  intro act hact
  refine ⟨(plain_pops act hact).toQuiet, fun t => ?_⟩
  obtain rfl | rfl | rfl : _ ∨ _ ∨ _ := by simpa [returnPops] using hact
  · exact ⟨t.scr, rfl⟩
  · exact ⟨_, rfl⟩
  · exact ⟨_, rfl⟩

theorem returnFromInterrupt_pops : ∀ act ∈ Machine.returnFromInterrupt.take 4, PopsByte act := by
  intro act hact
  obtain hact | rfl := List.mem_append.mp (show act ∈ returnPops ++ [_] from hact) |>.imp id List.mem_singleton.mp
  · exact returnPops_pop act hact
  · exact ⟨(plain_returnFromInterrupt _ (List.mem_of_mem_take hact)).toQuiet, fun t => ⟨_, rfl⟩⟩

theorem returnFaultForm : ReturnFaultForm := by
  intro s popped f hs hsole hpopped hr
  have hstart := Midway.start hs.1
  refine ⟨fun hlength => ?_, fun hlength => ?_⟩
  · exact faultsWith_exec (i := .rts) rfl
      (faultsWith_mono (hstart.pop_fault hsole returnPops_pop hlength hpopped hr) fun _ h => h.keeps hs)
  · exact faultsWith_exec (i := .rti) rfl (faultsWith_mono (hstart.pop_fault hsole returnFromInterrupt_pops hlength
      (tail := Machine.returnFromInterrupt.drop 4) hpopped hr) fun _ h => h.keeps hs)

end

end Sys2Proof.Proofs
end

section
/-! PROOFS. Interrupt entry, completed and stopped by a fault, and the RTI that undoes it (spec 60_exceptions.md R402 to R420, R431). -/

namespace Sys2Proof.Proofs

open Sys2Proof.Machine Sys2Proof.Laws

/-! ## The frame (R415) -/

/-- The bytes that an entry pushes: the flag byte, then pc, bank first. -/
def frameBytes (s : State) : List Byte :=
  [packFlags s.cfg.flagLayout s.flags, bankOf s.pc, hiByte (segOf s.pc), loByte (segOf s.pc)]

/-- Where they go: from the stack pointer up. -/
def frameSlots (s : State) : List Addr :=
  [stackByte s s.sp, stackByte s (s.sp + 1), stackByte s (s.sp + 2), stackByte s (s.sp + 3)]

theorem frameSlots_get (s : State) {k : Nat} (hk : k < 4) : stackByte s (s.sp + BitVec.ofNat 16 k) ∈ frameSlots s := by
  match k, hk with
  | 0, _ | 1, _ | 2, _ | 3, _ => simp [frameSlots]

section

variable {s t : State} {n : Nat} {off : Word} {m m' : Memory} {log log' : List Accepted}

/-- Where every device stores, every byte is pushed and none is accepted by a device without memory (R74). -/
theorem bytesPushed_of_storesAt {bs : List Byte}
    (hstores : ∀ k < bs.length, StoresAt s (stackByte s (off + BitVec.ofNat 16 k))) :
    ∃ m', BytesPushed s n off m log bs m' log := by
  induction bs generalizing n off m with
  | nil => exact ⟨m, rfl, rfl⟩
  | cons b rest ih =>
    obtain ⟨d, hd, hstore⟩ : StoresAt s (stackByte s off) := by simpa using hstores 0 (Nat.succ_pos _)
    have hrest : ∀ k < rest.length, StoresAt s (stackByte s (off + 1 + BitVec.ofNat 16 k)) := fun k hk => by
      rw [offset_succ]
      exact hstores (k + 1) (Nat.succ_lt_succ hk)
    obtain ⟨m', h⟩ := ih hrest
    exact ⟨m', _, [], memWrite_of_store (wide := false) hd nofun hstore _, h⟩

theorem frame_pushed (hstores : ∀ a ∈ frameSlots s, StoresAt s a) :
    ∃ m, BytesPushed s 4 s.sp s.mem s.accepted (frameBytes s) m s.accepted :=
  bytesPushed_of_storesAt fun _ hk => hstores _ (frameSlots_get s hk)

/-- The pushed frame stands in memory. -/
theorem frame_stands (hpushed : BytesPushed s n s.sp s.mem s.accepted (frameBytes s) m log)
    (hstores : ∀ a ∈ frameSlots s, StoresAt s a) (hcfg : t.cfg = s.cfg) (hmem : t.mem = m) :
    (frameSlots s).map (readByte t) = (frameBytes s).map some := by
  have stands {k : Nat} {b : Byte} (hk : k < 4) (hb : (frameBytes s)[k]? = some b) :
      readCell s.cfg.platform m (stackByte s (s.sp + BitVec.ofNat 16 k)) = some b :=
    readCell_pushed hpushed (by simp [frameBytes]) hb (hstores _ (frameSlots_get s hk))
  have hflags := stands (k := 0) (by decide) rfl
  rw [BitVec.add_zero] at hflags
  simp only [frameSlots, frameBytes, List.map_cons, List.map_nil, readByte, hcfg, hmem, List.cons.injEq, and_true]
  exact ⟨hflags, stands (k := 1) (by decide) rfl, stands (k := 2) (by decide) rfl, stands (k := 3) (by decide) rfl⟩

/-- An entry changes no byte outside its frame. -/
theorem frame_keepsMemoryBut (hpushed : BytesPushed s n s.sp s.mem s.accepted (frameBytes s) m log) (hcfg : t.cfg = s.cfg)
    (hmem : t.mem = m) : KeepsMemoryBut (frameSlots s) s t := by
  intro a ha
  rw [readByte, readByte, hcfg, hmem]
  refine readCell_of_bytesPushed hpushed fun k hk heq => ha ?_
  rw [heq]
  exact frameSlots_get s hk

end

/-! ## The cycles of an entry (R413 to R417) -/

/-- The vector slot of the latched interrupt; an IRQ's vector number is that of the second cycle (R412, R414). -/
def entrySlot (s : State) : Addr :=
  if s.istat = .irq then s.cfg.vectorBase + BitVec.ofNat 24 (3 * (linesAt s 2).vector.toNat) else s.cfg.nmiVectorAddr

/-! The cycles by name, in the order of `interruptCycles`. -/

/-- Interrupt cycle 1. -/
def acknowledgeCycle : Action := fun s => { s with irqAck := true }

/-- Interrupt cycle 2: the bank byte of the slot is requested. -/
def slotBankCycle : Action := fun s => busRead (vectorSlot s) false { s with scr := vectorSlot s }

/-- Interrupt cycle 3: the bank byte is latched, the segment word of the slot is requested. -/
def slotSegmentCycle : Action := fun s =>
  { busRead (s.scr + 1) true s with scr := joinAddr (loByte s.data) (segOf s.scr) }

/-- Interrupt cycles 4 to 7. -/
def framePushes : List Action :=
  [ fun s => pushByte (packFlags s.cfg.flagLayout s.flags) { s with scr := joinAddr (bankOf s.scr) s.data },
    fun s => pushByte (bankOf s.pc) s,
    fun s => pushByte (hiByte (segOf s.pc)) s,
    fun s => pushByte (loByte (segOf s.pc)) s ]

/-- Interrupt cycle 8. -/
def enterCycle : Action := fun s =>
  { s with pc := s.scr, phase := .fetch, cyc := 0,
           istat := if s.istat = .irq || s.cfg.nmiClearsLatch then .none else s.istat }

theorem interruptCycles_eq :
    interruptCycles = acknowledgeCycle :: slotBankCycle :: slotSegmentCycle :: (framePushes ++ [enterCycle]) := rfl

/-- The state after Interrupt cycle 8. -/
def entered (u : State) : State := { enterCycle (begun u) with cyc := 1 }

theorem framePushes_quiet : ∀ act ∈ framePushes, Quiet act := fun act hact =>
  interruptCycles_quiet act (by rw [interruptCycles_eq]; simp [hact])

theorem framePushes_push (s : State) : List.Forall₂ (PushesByte s) (frameBytes s) framePushes := by
  refine .cons ⟨framePushes_quiet _ ?_, fun u hcfg hflags _ => ⟨joinAddr (bankOf u.scr) u.data, by rw [← hcfg, ← hflags]⟩⟩
    (.cons ⟨framePushes_quiet _ ?_, fun u _ _ hpc => ⟨u.scr, by rw [← hpc]⟩⟩
      (.cons ⟨framePushes_quiet _ ?_, fun u _ _ hpc => ⟨u.scr, by rw [← hpc]⟩⟩
        (.cons ⟨framePushes_quiet _ ?_, fun u _ _ hpc => ⟨u.scr, by rw [← hpc]⟩⟩ .nil)))
  all_goals simp [framePushes]

/-- The first push assembles the vector, the others leave the scratch register alone. -/
theorem framePushes_scr {s t : State} (h : runCycles framePushes s = .next t) : t.scr = joinAddr (bankOf s.scr) s.data := by
  obtain ⟨u, hfirst, hrest⟩ := andThen_eq_next.mp h
  have hu : u.scr = joinAddr (bankOf s.scr) s.data := by
    rw [(tick_next_resolve hfirst).2, resolve_eq]
    simp
  refine runCycles_keeps (P := fun v => v.scr = joinAddr (bankOf s.scr) s.data) (fun act hact v w hv htick => ?_) hu hrest
  have hact : (act (begun v)).scr = v.scr := by
    simp only [List.mem_cons, List.not_mem_nil, or_false] at hact
    obtain rfl | rfl | rfl := hact <;> simp
  rw [(tick_next_resolve htick).2, resolve_eq]
  exact hact.trans hv

section

variable {s t : State} {bank seg : Word} {f : FaultReg} {m : Memory} {log : List Accepted}

theorem step_atInterrupt (hs : AtInterrupt s) : step s = runCycles interruptCycles s := by
  obtain ⟨-, hphase, hcyc, -⟩ := hs
  exact step_interrupt hphase hcyc

/-- Interrupt cycle 1, after which the slot of the latched interrupt is requested. -/
theorem entry_acknowledge (hs : AtInterrupt s) (hsole : SoleWriter s) :
    ∃ t, runCycles interruptCycles s = runCycles (slotBankCycle :: slotSegmentCycle :: (framePushes ++ [enterCycle])) t ∧
      Midway 1 s t s.sp s.scr s.mem s.accepted ∧
      slotBankCycle (begun t) = { busRead (entrySlot s) false (begun t) with sp := s.sp, scr := entrySlot s } := by
  obtain ⟨hfault, -, -, hlatched⟩ := hs
  obtain ⟨t, htick, h⟩ := (Midway.start hfault).acknowledge hsole (act := acknowledgeCycle)
    (interruptCycles_quiet _ (by simp [interruptCycles_eq])) rfl
  have hslot : vectorSlot (begun t) = entrySlot s := by
    have histat := h.istat hlatched
    have hlines : (environment t).lines = linesAt s 2 := h.lines 1
    rw [vectorSlot, entrySlot, begun_istat_of_ne (histat ▸ hlatched), histat, begun_lines, hlines, begun_cfg, h.cfg]
  refine ⟨t, runCycles_cons_of_tick htick _, h, ?_⟩
  simp [slotBankCycle, hslot, busRead, h.sp]

/-- A fault of the first read of the slot. -/
theorem entry_bank_fault (hs : AtInterrupt s) (hsole : SoleWriter s)
    (hr : memRead s.cfg s.mem (linesAt s 2) (entrySlot s) false = .error f) :
    FaultsWith (runCycles interruptCycles s) f fun t => FaultLeaves s t s.sp s.mem s.accepted := by
  obtain ⟨t, hrun, h, hact⟩ := entry_acknowledge hs hsole
  rw [hrun]
  exact faultsWith_runCycles (h.read_fault hsole hact hr) _

/-- Interrupt cycles 1 and 2, after which the segment word of the slot is requested. -/
theorem entry_bank (hs : AtInterrupt s) (hsole : SoleWriter s)
    (hbank : memRead s.cfg s.mem (linesAt s 2) (entrySlot s) false = .ok bank) :
    ∃ t, runCycles interruptCycles s = runCycles (slotSegmentCycle :: (framePushes ++ [enterCycle])) t ∧
      Midway 2 s t s.sp (entrySlot s) s.mem s.accepted ∧
      slotSegmentCycle (begun t) = { busRead (entrySlot s + 1) true (begun t) with
                                     sp := s.sp, scr := joinAddr (loByte bank) (segOf (entrySlot s)) } := by
  obtain ⟨t, hrun, h, hact⟩ := entry_acknowledge hs hsole
  obtain ⟨u, htick, hu, hdata⟩ := h.read hsole (interruptCycles_quiet _ (by simp [interruptCycles_eq])) hact hbank
  refine ⟨u, hrun.trans (runCycles_cons_of_tick htick _), hu, ?_⟩
  simp [slotSegmentCycle, busRead, hu.sp, hu.scr, hdata]

/-- A fault of the second read of the slot. -/
theorem entry_segment_fault (hs : AtInterrupt s) (hsole : SoleWriter s)
    (hbank : memRead s.cfg s.mem (linesAt s 2) (entrySlot s) false = .ok bank)
    (hr : memRead s.cfg s.mem (linesAt s 3) (entrySlot s + 1) true = .error f) :
    FaultsWith (runCycles interruptCycles s) f fun t => FaultLeaves s t s.sp s.mem s.accepted := by
  obtain ⟨t, hrun, h, hact⟩ := entry_bank hs hsole hbank
  rw [hrun]
  exact faultsWith_runCycles (h.read_fault hsole hact hr) _

/-- Interrupt cycles 1 to 3: the bank byte of the vector in the scratch register, its segment word on the data lane. -/
theorem entry_vector (hs : AtInterrupt s) (hsole : SoleWriter s)
    (hbank : memRead s.cfg s.mem (linesAt s 2) (entrySlot s) false = .ok bank)
    (hseg : memRead s.cfg s.mem (linesAt s 3) (entrySlot s + 1) true = .ok seg) :
    ∃ t scr, runCycles interruptCycles s = runCycles (framePushes ++ [enterCycle]) t ∧
      Midway 3 s t s.sp scr s.mem s.accepted ∧ joinAddr (bankOf t.scr) t.data = joinAddr (loByte bank) seg := by
  obtain ⟨t, hrun, h, hact⟩ := entry_bank hs hsole hbank
  obtain ⟨u, htick, hu, hdata⟩ := h.read hsole (interruptCycles_quiet _ (by simp [interruptCycles_eq])) hact hseg
  exact ⟨u, _, hrun.trans (runCycles_cons_of_tick htick _), hu, by rw [hu.scr, hdata, bankOf_joinAddr]⟩

/-- Only the latch of an NMI outlives the entry, and that without NMI_CLEARS_LATCH (R417). -/
theorem entered_istat (hlatched : t.istat ≠ .none) : (entered t).istat =
    if t.istat = .irq ∨ t.cfg.nmiClearsLatch = true then .none else .nmi := by
  simp only [entered, enterCycle, begun_istat_of_ne hlatched, begun_cfg]
  cases hkind : t.istat with
  | none => exact absurd hkind hlatched
  | irq => simp
  | nmi => simp

theorem tick_enterCycle (ht : t.fault = none) : tick enterCycle t = .next (entered t) :=
  tick_idle (u := enterCycle (begun t)) ht rfl ((begun_fault t).trans ht) rfl rfl

/-- An entry whose transactions all succeed: the pushes, then the jump to the vector. -/
theorem entry_completes (hs : AtInterrupt s) (hsole : SoleWriter s)
    (hbank : memRead s.cfg s.mem (linesAt s 2) (entrySlot s) false = .ok bank)
    (hseg : memRead s.cfg s.mem (linesAt s 3) (entrySlot s + 1) true = .ok seg)
    (hpushed : BytesPushed s 4 s.sp s.mem s.accepted (frameBytes s) m log) :
    ∃ u, step s = .next (entered u) ∧ Midway 7 s u (s.sp + 4) (joinAddr (loByte bank) seg) m log := by
  obtain ⟨t, scr, hrun, h, hvector⟩ := entry_vector hs hsole hbank hseg
  obtain ⟨u, scr', hpushes, hu⟩ := h.pushes hsole (framePushes_push s) hpushed
  have hscr : scr' = joinAddr (loByte bank) seg := hu.scr.symm.trans ((framePushes_scr hpushes).trans hvector)
  subst hscr
  refine ⟨u, ?_, hu⟩
  rw [step_atInterrupt hs, hrun, runCycles_append, hpushes, andThen_next]
  exact runCycles_single (tick_enterCycle hu.fault)

end

theorem entryFaultForm : EntryFaultForm := by
  intro s f hs hsole slot
  have unchanged (t : State) (h : FaultLeaves s t s.sp s.mem s.accepted) :
      FaultKeepsAll s t ∧ t.sp = s.sp ∧ t.phase = .interrupt := by
    obtain ⟨-, hphase, -⟩ := hs
    exact ⟨h.keepsAll, h.sp, h.phase.trans hphase⟩
  rw [step_atInterrupt hs]
  refine ⟨fun hr => faultsWith_mono (entry_bank_fault hs hsole hr) unchanged, fun bank hbank =>
    ⟨fun hr => faultsWith_mono (entry_segment_fault hs hsole hbank hr) unchanged, ?_⟩⟩
  intro seg before b rest m log hseg hbytes hpushed hw
  obtain ⟨t, scr, hrun, h, -⟩ := entry_vector hs hsole hbank hseg
  have hpushes := framePushes_push s
  rw [frameBytes, hbytes] at hpushes
  have hlength : before.length ≤ 65536 := (length_le_of_split hbytes).trans (by simp)
  rw [hrun]
  exact faultsWith_mono (h.push_fault hsole hpushes hpushed hw) fun _ hleaves => hleaves.pushFault hlength hpushed

/-- Settles O60. -/
theorem storeAndStackFaultsKeepMemory : Obligations.StoreAndStackFaultsKeepMemory := by
  refine ⟨fun s r1 m f hs hsole => ⟨?_, ?_, ?_, ?_, ?_, ?_⟩, callFaultForm, returnFaultForm, entryFaultForm⟩
  · exact faults_store (wide := true) rfl hs hsole
  · exact faults_store (wide := false) rfl hs hsole
  · exact faults_push (wide := true) rfl hs hsole
  · exact faults_push (wide := false) rfl hs hsole
  · exact faults_pop (wide := true) rfl hs hsole
  · exact faults_pop (wide := false) rfl hs hsole

/-! ## Entry and return (R411, R420) -/

/-- Settles O32. -/
theorem interruptEntryPushesAndVectors : Obligations.InterruptEntryPushesAndVectors := by
  intro s bank hi lo hs hsole slot frame hbank hseg hstores
  obtain ⟨m, hpushed⟩ := frame_pushed hstores
  obtain ⟨u, hstep, hu⟩ := entry_completes hs hsole (hbank _) (hseg _) hpushed
  have hmem : (entered u).mem = m := hu.begun_mem hsole
  have hcfg : (entered u).cfg = s.cfg := (begun_cfg u).trans hu.cfg
  obtain ⟨-, hirOp, hirMeta, hkeeps⟩ := hu.engine
  obtain ⟨-, -, -, hlatched⟩ := hs
  have histat : (entered u).istat = if s.istat = .irq ∨ s.cfg.nmiClearsLatch = true then .none else .nmi := by
    rw [entered_istat (hkeeps hlatched ▸ hlatched), hkeeps hlatched, hu.cfg]
  have hpc : (entered u).pc = joinAddr bank (joinWord hi lo) := by
    rw [← loByte_setWidth bank, ← hu.scr]
    exact begun_scr u
  refine ⟨entered u, hstep, hcfg, ?_, ?_, hpc, rfl, ?_, rfl, rfl, ?_, ?_, ?_, histat, rfl, rfl, rfl,
    keepsIoPorts_trans hu.ioPorts ?_, ?_, frame_stands hpushed hstores hcfg hmem, frame_keepsMemoryBut hpushed hcfg hmem⟩
  case refine_5 => exact (begun_irOp u).trans hirOp
  case refine_6 => exact (begun_irMeta u).trans hirMeta
  all_goals simp [entered, enterCycle, KeepsIoPorts, hu.regs, hu.flags, hu.sp, hu.fault, hu.accepted]

/-- What a completed entry whose frame is in RAM leaves for an RTI. -/
theorem entry_leaves {s t : State} (hs : AtInterrupt s) (hsole : SoleWriter s) (hstores : ∀ a ∈ frameSlots s, StoresAt s a)
    (h : step s = .next t) : t.cfg = s.cfg ∧ t.sp = s.sp + 4 ∧ (frameSlots s).map (readByte t) = (frameBytes s).map some := by
  obtain ⟨m, hpushed⟩ := frame_pushed hstores
  have hrun : runCycles interruptCycles s = .next t := step_atInterrupt hs ▸ h
  cases hbank : memRead s.cfg s.mem (linesAt s 2) (entrySlot s) false with
  | error f => exact absurd hrun (not_next_of_faultsWith (entry_bank_fault hs hsole hbank) t)
  | ok bank =>
    cases hseg : memRead s.cfg s.mem (linesAt s 3) (entrySlot s + 1) true with
    | error f => exact absurd hrun (not_next_of_faultsWith (entry_segment_fault hs hsole hbank hseg) t)
    | ok seg =>
      obtain ⟨u, hstep, hu⟩ := entry_completes hs hsole hbank hseg hpushed
      cases h.symm.trans hstep
      have hcfg : (entered u).cfg = s.cfg := (begun_cfg u).trans hu.cfg
      exact ⟨hcfg, (begun_sp u).trans hu.sp, frame_stands hpushed hstores hcfg (hu.begun_mem hsole)⟩

/-- Settles O33: RTI pops the four bytes that the entry pushed, in reverse order, from the addresses they went to. -/
theorem interruptThenRtiRestores : Obligations.InterruptThenRtiRestores := by
  intro s t u hs hsole hlayout frame hram hstep hu hcfg hsp hkept
  have hstores : ∀ a ∈ frameSlots s, StoresAt s a := fun a ha =>
    have ⟨d, hd, hstore, _⟩ := hram a ha
    ⟨d, hd, hstore⟩
  obtain ⟨htcfg, htsp, hleft⟩ := entry_leaves hs hsole hstores hstep
  rw [htcfg] at hcfg
  have hstand : (frameSlots s).map (readByte u) = (frameBytes s).map some := (List.map_congr_left hkept).trans hleft
  simp only [frameSlots, frameBytes, List.map_cons, List.map_nil, List.cons.injEq, and_true] at hstand
  obtain ⟨hflags, hbank, hhi, hlo⟩ := hstand
  have read {off : Word} {b : Byte} (k : Word) (hk : u.sp - k = off) (hmem : stackByte s off ∈ frame)
      (hb : readByte u (stackByte s off) = some b) (l : Lines) :
      memRead u.cfg u.mem l (stackByte u (u.sp - k)) false = .ok (b.setWidth 16) := by
    rw [hk, stackByte, hcfg, ← stackByte, ← hcfg]
    exact memRead_byte_of_ramAt (hram _ hmem) hcfg hb l
  obtain ⟨v, hreturn, ⟨hregs, hvflags, hpc, hvsp, -⟩, hstore, -⟩ :=
    returnFromInterrupt u (loByte (segOf s.pc)) (hiByte (segOf s.pc)) (bankOf s.pc) (packFlags s.cfg.flagLayout s.flags) hu
      (by rw [SoleWriter, hcfg, hsole])
      (read 1 (by rw [hsp, htsp]; bv_omega) (by simp [frame]) hlo _)
      (read 2 (by rw [hsp, htsp]; bv_omega) (by simp [frame]) hhi _)
      (read 3 (by rw [hsp, htsp]; bv_omega) (by simp [frame]) hbank _)
      (read 4 (by rw [hsp, htsp, BitVec.add_sub_cancel]) (by simp [frame]) hflags _)
  rw [joinWord_hiByte_loByte, joinAddr_bankOf_segOf] at hpc
  rw [hcfg, unpackFlags_packFlags hlayout] at hvflags
  exact ⟨v, hreturn, hpc, hvflags, hvsp.trans (by rw [hsp, htsp, BitVec.add_sub_cancel]), hregs, hstore⟩

end Sys2Proof.Proofs
end
